-- ==== Sys2Proof/Word.lean ====
section
/-! DEFINITION. The machine's word types and the port values of one clock cycle.

Every value of RXFC is an unsigned integer (00_scope.md R9); bits are numbered from 0 at the least
significant bit (R8). -/

namespace Sys2Proof

/-- A byte `b[7:0]` (R8, R9): the unit of the input stream and of `LEN`, `CNT`, `ACC`. -/
abbrev Byte := BitVec 8

/-- The 16-bit operation selector vector `OSV` (30_encoding.md R80). -/
abbrev Osv := BitVec 16

/-- The values of RXFC's input ports in ONE clock cycle (10_state.md R20). `clk` has no field: one
model step is one rising edge (00_scope.md R11). -/
structure Inputs where
  /-- `rst`: synchronous reset, active high. -/
  rst : Bool
  /-- `xport_fail`: the transport has failed or reached end-of-stream. -/
  xportFail : Bool
  /-- `in_valid`: the transport offers a byte this cycle. -/
  inValid : Bool
  /-- `sink_hold`: the consumer asks RXFC not to accept a byte this cycle. -/
  sinkHold : Bool
  /-- `in_byte`: the offered byte, meaningful only when `in_valid` is 1. -/
  inByte : Byte
  deriving DecidableEq, Repr, Inhabited

end Sys2Proof
end

