-- ==== Sys2Proof/Config.lean ====
section
/-! DEFINITION. What this hardware fixes when it is built (log entry 8), and the model's one free
value. -/

namespace Sys2Proof

/-- `HDR_PRIMARY`, the header of the primary variant (00_scope.md R6, 30_encoding.md R71). -/
def Config.hdrPrimary : Byte := 0x72

/-- `HDR_TRACE`, the header of the trace variant (00_scope.md R6, 30_encoding.md R71). -/
def Config.hdrTrace : Byte := 0x1C

/-- FREE VALUE (log entry 1): the port values in a cycle for which `State.inputs` lists none. The
environment drives the ports and the spec does not say what it drives, so nothing constrains them;
the argument is the number of the cycle. -/
opaque Config.freeInputs : Nat → Inputs

end Sys2Proof
end

