-- ==== Sys2Proof/Syntax.lean ====
section
/-! DEFINITION. The operations of RXFC: one constructor per row of the operation table
(30_encoding.md R84, spec/opcode_table.json), in the table's order.

An operation that accepts a byte carries that byte, its only operand (R82); every other operation
has none. -/

namespace Sys2Proof

/-- RXFC's fifteen operations. -/
inductive Instr where
  /-- Row 1 `RESET` (42_system_ops.md R150). -/
  | reset
  /-- Row 2 `HALT_DESYNC` (R152). -/
  | haltDesync
  /-- Row 3 `HALT_FAILED` (R153). -/
  | haltFailed
  /-- Row 4 `ILLEGAL_STATE` (R156). -/
  | illegalState
  /-- Row 5 `ILLEGAL_CNT0` (R157). -/
  | illegalCnt0
  /-- Row 6 `XPORT_FAIL` (R151). -/
  | xportFail
  /-- Row 7 `IDLE` (41_frame_ops.md R122). -/
  | idle
  /-- Row 8 `HDR_PRIMARY` (R123): the accepted byte is `HDR_PRIMARY`. -/
  | hdrPrimary (b : Byte)
  /-- Row 9 `HDR_TRACE` (R124): the accepted byte is `HDR_TRACE`. -/
  | hdrTrace (b : Byte)
  /-- Row 10 `HDR_BAD` (R125): the accepted byte is neither header. -/
  | hdrBad (b : Byte)
  /-- Row 11 `LEN_ZERO` (R128): the accepted length is 0. -/
  | lenZero (l : Byte)
  /-- Row 12 `LEN_ONE` (R127): the accepted length is 1. -/
  | lenOne (l : Byte)
  /-- Row 13 `LEN_BODY` (R126): the accepted length is 2 or more. -/
  | lenBody (l : Byte)
  /-- Row 14 `BODY_CHK` (R130): the accepted byte is the frame's checksum byte. -/
  | bodyChk (c : Byte)
  /-- Row 15 `BODY_DATA` (R129): the accepted byte is a payload byte. -/
  | bodyData (b : Byte)
  deriving DecidableEq, Repr

/-- The operation's row number in R84, which is its priority in spec/opcode_table.json. -/
def Instr.row : Instr → Nat
  | .reset => 1
  | .haltDesync => 2
  | .haltFailed => 3
  | .illegalState => 4
  | .illegalCnt0 => 5
  | .xportFail => 6
  | .idle => 7
  | .hdrPrimary _ => 8
  | .hdrTrace _ => 9
  | .hdrBad _ => 10
  | .lenZero _ => 11
  | .lenOne _ => 12
  | .lenBody _ => 13
  | .bodyChk _ => 14
  | .bodyData _ => 15

/-- The operation's operand: the accepted byte, for the operations that accept one (R82). -/
def Instr.operand : Instr → Option Byte
  | .reset => none
  | .haltDesync => none
  | .haltFailed => none
  | .illegalState => none
  | .illegalCnt0 => none
  | .xportFail => none
  | .idle => none
  | .hdrPrimary b => some b
  | .hdrTrace b => some b
  | .hdrBad b => some b
  | .lenZero l => some l
  | .lenOne l => some l
  | .lenBody l => some l
  | .bodyChk c => some c
  | .bodyData b => some b

end Sys2Proof
end

