-- ==== Sys2Proof/WellFormed.lean ====
section
/-! DEFINITION. Which operand values an operation may carry: those the operation table's rows select
(30_encoding.md R84; the "Operands" lines of 41_frame_ops.md R123 to R130). -/

namespace Sys2Proof

/-- The operand is one with which the operation's row can be selected. The body operations take any
byte value (30_encoding.md R87). -/
def Instr.wellFormed : Instr → Bool
  | .reset => true
  | .haltDesync => true
  | .haltFailed => true
  | .illegalState => true
  | .illegalCnt0 => true
  | .xportFail => true
  | .idle => true
  | .hdrPrimary b => b == Config.hdrPrimary
  | .hdrTrace b => b == Config.hdrTrace
  | .hdrBad b => b != Config.hdrPrimary && b != Config.hdrTrace
  | .lenZero l => l == 0x00
  | .lenOne l => l == 0x01
  | .lenBody l => decide (2 ≤ l.toNat)
  | .bodyChk _ => true
  | .bodyData _ => true

end Sys2Proof
end

