-- ==== Sys2Proof/Decode.lean ====
section
/-! DEFINITION. The operation table and the decoder it gives (30_encoding.md R80 to R85), then the
encoder, written from the fields of the selector vector.

An `OSV` is never stored in a memory: RXFC has none (20_memory.md R50). `Machine.osv` forms it each
cycle from the registers and the ports. -/

namespace Sys2Proof

/-! ## The fields of the selector vector (R80) -/

/-- Bit 15, `Z`: `CNT == 0`. -/
def osvZ (w : Osv) : Bool := w.getLsbD 15
/-- Bit 14, `RST`: `rst`. -/
def osvRst (w : Osv) : Bool := w.getLsbD 14
/-- Bit 13, `FAIL`: `xport_fail`. -/
def osvFail (w : Osv) : Bool := w.getLsbD 13
/-- Bit 12, `V`: `in_valid & !sink_hold`. -/
def osvV (w : Osv) : Bool := w.getLsbD 12
/-- Bits 11:9, `S`: `STATE`. -/
def osvS (w : Osv) : BitVec 3 := w.extractLsb' 9 3
/-- Bit 8, `LAST`: `CNT == 1`. -/
def osvLast (w : Osv) : Bool := w.getLsbD 8
/-- Bits 7:0, `BYTE`: `in_byte`. -/
def osvByte (w : Osv) : Byte := w.extractLsb' 0 8

/-- `{Z, RST, FAIL, V, S, LAST, BYTE}`: the selector vector with these fields (R80; concatenation as
in 00_scope.md R8, the first part most significant). -/
def packOsv (z rst fail v : Bool) (s : BitVec 3) (last : Bool) (byte : Byte) : Osv :=
  BitVec.ofBool z ++ BitVec.ofBool rst ++ BitVec.ofBool fail ++ BitVec.ofBool v ++ s ++
    BitVec.ofBool last ++ byte

/-! ## The operation table (R84) -/

/-- One row of the operation table: the row selects `w` when `(w & mask) == pattern`, and names an
operation, which takes the selector's `BYTE` if it has an operand. -/
structure OpRow where
  mask : Osv
  pattern : Osv
  operation : Byte → Instr

/-- `(OSV & mask) == match` (R83). -/
def OpRow.selects (r : OpRow) (w : Osv) : Bool := (w &&& r.mask) == r.pattern

/-- The operation table, in R84's order, which is its priority. -/
def opTable : List OpRow := [
  ⟨0x4000, 0x4000, fun _ => .reset⟩,
  ⟨0x4E00, 0x0600, fun _ => .haltDesync⟩,
  ⟨0x4E00, 0x0800, fun _ => .haltFailed⟩,
  ⟨0x4800, 0x0800, fun _ => .illegalState⟩,
  ⟨0xCE00, 0x8400, fun _ => .illegalCnt0⟩,
  ⟨0x6000, 0x2000, fun _ => .xportFail⟩,
  ⟨0x7000, 0x0000, fun _ => .idle⟩,
  ⟨0x7EFF, 0x1072, fun b => .hdrPrimary b⟩,
  ⟨0x7EFF, 0x101C, fun b => .hdrTrace b⟩,
  ⟨0x7E00, 0x1000, fun b => .hdrBad b⟩,
  ⟨0x7EFF, 0x1200, fun l => .lenZero l⟩,
  ⟨0x7EFF, 0x1201, fun l => .lenOne l⟩,
  ⟨0x7E00, 0x1200, fun l => .lenBody l⟩,
  ⟨0xFF00, 0x1500, fun c => .bodyChk c⟩,
  ⟨0xFF00, 0x1400, fun b => .bodyData b⟩]

/-! ## The decoder -/

/-- Why a selector vector is rejected. -/
inductive DecodeError where
  /-- No row of the table selects this vector. The table is total (R85), so this is never raised. -/
  | noRowSelects (w : Osv)
  deriving DecidableEq, Repr

/-- The operation selected by `w`: that of the FIRST row that selects it (R83). -/
def decode (w : Osv) : Except DecodeError Instr :=
  match opTable.find? (fun r => r.selects w) with
  | some r => .ok (r.operation (osvByte w))
  | none => .error (.noRowSelects w)

/-- The decoder over an instruction word given as a number: `nbits` bits (at most the 16 of an `OSV`),
the bits above them zero. -/
def decodeTableWord (nbits w : Nat) : Option Instr :=
  if nbits ≤ 16 then (decode (BitVec.ofNat 16 (w % 2 ^ nbits))).toOption else none

/-! ## The encoder -/

/-- A selector vector that selects the operation: its fields as R84's "selects when" column gives
them, every field the row leaves free being 0. `ILLEGAL_STATE` takes the first of its three state
codes, 101, since row 3 takes 100 (log entry 9). -/
def encode : Instr → Osv
  | .reset => packOsv false true false false 0b000 false 0x00
  | .haltDesync => packOsv false false false false 0b011 false 0x00
  | .haltFailed => packOsv false false false false 0b100 false 0x00
  | .illegalState => packOsv false false false false 0b101 false 0x00
  | .illegalCnt0 => packOsv true false false false 0b010 false 0x00
  | .xportFail => packOsv false false true false 0b000 false 0x00
  | .idle => packOsv false false false false 0b000 false 0x00
  | .hdrPrimary b => packOsv false false false true 0b000 false b
  | .hdrTrace b => packOsv false false false true 0b000 false b
  | .hdrBad b => packOsv false false false true 0b000 false b
  | .lenZero l => packOsv false false false true 0b001 false l
  | .lenOne l => packOsv false false false true 0b001 false l
  | .lenBody l => packOsv false false false true 0b001 false l
  | .bodyChk c => packOsv false false false true 0b010 true c
  | .bodyData b => packOsv false false false true 0b010 false b

end Sys2Proof
end

