-- ==== Sys2Proof/Machine/Checksum.lean ====
section
/-! DEFINITION. The arithmetic of the checksum as pure functions (40_checksum.md). The frame
operations apply them one byte at a time. -/

namespace Sys2Proof.Machine

/-- `add8(a, b) = (a + b) mod 256`: 8-bit addition that wraps, with no carry (R100). -/
def add8 (a b : Byte) : Byte := a + b

/-- `sum8`: the left fold of `add8` over the bytes, from 0 (R101). -/
def sum8 (bytes : List Byte) : Byte := bytes.foldl add8 0x00

/-- `checksum(b) = sum8(b)` (R102). -/
def checksum (bytes : List Byte) : Byte := sum8 bytes

/-- `verify(bytes, c) = (sum8(bytes) == c)`; a mismatch raises nothing (R103). -/
def verify (bytes : List Byte) (c : Byte) : Bool := sum8 bytes == c

end Sys2Proof.Machine
end

