-- ==== Sys2Proof/Machine/State.lean ====
section
/-! DEFINITION. RXFC's state (10_state.md): its five control and data registers, its eleven output
registers, and the model's own account of the environment (log entries 1 and 2).

The register list is complete (R29): RXFC has no program counter, no register file, no memory, no
buffer, no queue and no pending event (R27, R28, R42, R50). -/

namespace Sys2Proof.Machine

/-- The eight values of the 3-bit register `STATE`, named as R22 names its codes. -/
inductive ProtocolState where
  /-- Code 0 `AWAIT_HDR`, live. -/
  | awaitHdr
  /-- Code 1 `READ_LEN`, live. -/
  | readLen
  /-- Code 2 `READ_BODY`, live. -/
  | readBody
  /-- Code 3 `DESYNC`, terminal. -/
  | desync
  /-- Code 4 `FAILED`, terminal. -/
  | failed
  /-- Code 5, reserved. -/
  | rsv5
  /-- Code 6, reserved. -/
  | rsv6
  /-- Code 7, reserved. -/
  | rsv7
  deriving DecidableEq, Repr

/-- The four values of the 2-bit register `O_ROLE`, named as R37 names its codes. -/
inductive Role where
  /-- Code 0 `HDR`: the header, or a rejected header byte. -/
  | hdr
  /-- Code 1 `LEN`: the length byte. -/
  | len
  /-- Code 2 `PAYLOAD`: a body byte that is not the last. -/
  | payload
  /-- Code 3 `CHK`: the last body byte, the checksum. -/
  | chk
  deriving DecidableEq, Repr

/-- The cause codes of `O_CAUSE` (60_exceptions.md R170). Code 7 is reserved and never output, so it
has no constructor (93_implementation_defined.md item 18). -/
inductive Cause where
  /-- Code 0. -/
  | none
  /-- Code 1 `TransportError`, fatal. -/
  | transportError
  /-- Code 2 `Desynchronization`, fatal. -/
  | desynchronization
  /-- Code 3 `ChecksumMismatch`, non-fatal. -/
  | checksumMismatch
  /-- Code 4 `ShortFrame`, non-fatal. -/
  | shortFrame
  /-- Code 5 `FrameTooShort`: the downstream decoder's, never raised by RXFC (R175). -/
  | frameTooShort
  /-- Code 6 `PersistError`: the persistence sink's, never raised by RXFC (R176). -/
  | persistError
  deriving DecidableEq, Repr

/-- The machine's state. -/
structure State where
  /-- `STATE`, 3 bits (R22). -/
  state : ProtocolState
  /-- `VAR`, 1 bit: 1 for a primary frame (R23). -/
  var : Bool
  /-- `LEN`, 8 bits: the declared length of the current frame (R24). -/
  len : Byte
  /-- `CNT`, 8 bits: body bytes still to be accepted (R25). -/
  cnt : Byte
  /-- `ACC`, 8 bits: the checksum accumulator (R26). -/
  acc : Byte
  /-- `O_DONE`, 1 bit, pulse (R30). -/
  oDone : Bool
  /-- `O_PRIMARY`, 1 bit (R31). -/
  oPrimary : Bool
  /-- `O_OK`, 1 bit (R32). -/
  oOk : Bool
  /-- `O_SHORT`, 1 bit (R33). -/
  oShort : Bool
  /-- `O_CALC`, 8 bits (R34). -/
  oCalc : Byte
  /-- `O_EXP`, 8 bits (R34). -/
  oExp : Byte
  /-- `O_LEN`, 8 bits (R35). -/
  oLen : Byte
  /-- `O_BVALID`, 1 bit, pulse (R36). -/
  oBvalid : Bool
  /-- `O_BYTE`, 8 bits (R36). -/
  oByte : Byte
  /-- `O_ROLE`, 2 bits (R36, R37). -/
  oRole : Role
  /-- `O_BIDX`, 8 bits (R36). -/
  oBidx : Byte
  /-- The MODEL's own (log entry 1): the port values of this cycle and of the cycles after it, this
  cycle's first; one entry a clock cycle, as a stimulus script's lines are (30_encoding.md R89). -/
  inputs : List Inputs
  /-- The MODEL's own (log entry 1): the number of clock cycles so far, to which the free value
  `Config.freeInputs` is applied. RXFC has no such register and no operation reads it. -/
  cycle : Nat
  deriving DecidableEq, Repr

/-- Why the machine stops with a fault. Both are safe: the model stops where physical hardware does
something implementation-defined, in states that no run from reset reaches (R43). -/
inductive Fault where
  /-- `IllegalState`: `STATE` holds a reserved code and `rst = 0`. Raised by `ILLEGAL_STATE` (R156). -/
  | illegalState
  /-- `IllegalCount`: `STATE = READ_BODY` with `CNT = 0` and `rst = 0`. Raised by `ILLEGAL_CNT0` (R157). -/
  | illegalCount
  deriving DecidableEq, Repr

/-- Why an instruction has no meaning in the model. -/
inductive Refusal where
  /-- An operation the model gives no meaning yet; raised by `exec`. No arm raises it. Safe. -/
  | notModelled (mnemonic : String)
  /-- No row of the operation table selects this vector; raised by `step`. The table is total (R85),
  so it is never raised. Safe. -/
  | noRowSelects (w : Osv)
  deriving DecidableEq, Repr

/-- The machine right after reset: every register at its value in R44. The environment's inputs are
unlisted (log entry 1). -/
def State.reset : State where
  state := .awaitHdr
  var := false
  len := 0x00
  cnt := 0x00
  acc := 0x00
  oDone := false
  oPrimary := false
  oOk := false
  oShort := false
  oCalc := 0x00
  oExp := 0x00
  oLen := 0x00
  oBvalid := false
  oByte := 0x00
  oRole := .hdr
  oBidx := 0x00
  inputs := []
  cycle := 0

end Sys2Proof.Machine
end

