-- ==== Sys2Proof/Machine/Ops.lean ====
section
/-! DEFINITION. The shared operations over the registers: this cycle's ports, the defaults of every
operation, `Emit`, `REPORT`, the entry into a fatal state and the reset that leaves it.

All writes of a cycle take effect together at the clock edge and a rule's right-hand sides read the
old values (00_scope.md R10). -/

namespace Sys2Proof.Machine

/-! ## The environment's side of a cycle -/

/-- The port values of this cycle: the first listed, or the free value when none is (log entry 1). -/
def State.now (s : State) : Inputs :=
  match s.inputs with
  | x :: _ => x
  | [] => Config.freeInputs s.cycle

/-- The port values of the cycle `k` cycles from this one. -/
def State.inputAt (s : State) (k : Nat) : Inputs :=
  match s.inputs[k]? with
  | some x => x
  | none => Config.freeInputs (s.cycle + k)

/-- This cycle's port values are spent: the next cycle's stand first. No register changes. -/
def State.tick (s : State) : State := { s with inputs := s.inputs.tail, cycle := s.cycle + 1 }

/-! ## `STATE` and `O_ROLE` as codes -/

/-- The 3-bit code of a value of `STATE` (10_state.md R22). -/
def ProtocolState.code : ProtocolState → BitVec 3
  | .awaitHdr => 0
  | .readLen => 1
  | .readBody => 2
  | .desync => 3
  | .failed => 4
  | .rsv5 => 5
  | .rsv6 => 6
  | .rsv7 => 7

/-- The value of `STATE` with this code. -/
def ProtocolState.ofCode (c : BitVec 3) : ProtocolState :=
  if c = 0 then .awaitHdr
  else if c = 1 then .readLen
  else if c = 2 then .readBody
  else if c = 3 then .desync
  else if c = 4 then .failed
  else if c = 5 then .rsv5
  else if c = 6 then .rsv6
  else .rsv7

/-- `live(STATE)`: 1 exactly in `AWAIT_HDR`, `READ_LEN` and `READ_BODY` (R22, 20_memory.md R53). -/
def ProtocolState.live : ProtocolState → Bool
  | .awaitHdr => true
  | .readLen => true
  | .readBody => true
  | .desync => false
  | .failed => false
  | .rsv5 => false
  | .rsv6 => false
  | .rsv7 => false

/-- `STATE` is one of the reserved codes 5, 6 and 7 (R22). -/
def ProtocolState.reserved : ProtocolState → Bool
  | .awaitHdr => false
  | .readLen => false
  | .readBody => false
  | .desync => false
  | .failed => false
  | .rsv5 => true
  | .rsv6 => true
  | .rsv7 => true

/-- The 2-bit code of a value of `O_ROLE` (10_state.md R37). -/
def Role.code : Role → BitVec 2
  | .hdr => 0
  | .len => 1
  | .payload => 2
  | .chk => 3

/-! ## What operations do to the registers -/

/-- The defaults of every operation but `RESET` and the two faults: `O_DONE <- 0` and
`O_BVALID <- 0`, every other register kept (41_frame_ops.md R120). -/
def State.pulseDefaults (s : State) : State := { s with oDone := false, oBvalid := false }

/-- `Emit(role, byte, idx)`: the byte tag (20_memory.md R64). -/
def State.emit (s : State) (role : Role) (byte idx : Byte) : State :=
  { s with oBvalid := true, oByte := byte, oRole := role, oBidx := idx }

/-- `REPORT(ok, short, calc, exp, len)`: the frame-end procedure (41_frame_ops.md R121). No
operation that reports writes `VAR`, so the `VAR` read here is the one before the edge. -/
def State.report (s : State) (ok short : Bool) (computed expected len : Byte) : State :=
  { s with
    oDone := true
    oPrimary := s.var
    oOk := ok
    oShort := short
    oCalc := computed
    oExp := expected
    oLen := len
    cnt := 0x00
    state := .awaitHdr }

/-- The two fatal errors (60_exceptions.md R170). -/
inductive FatalError where
  /-- `TransportError` (R171). -/
  | transportError
  /-- `Desynchronization` (R172). -/
  | desynchronization
  deriving DecidableEq, Repr

/-- The terminal state a fatal error enters: `FAILED` for `XPORT_FAIL`, `DESYNC` for `HDR_BAD` (R180). -/
def FatalError.terminal : FatalError → ProtocolState
  | .transportError => .failed
  | .desynchronization => .desync

/-- RXFC's "trap entry" (60_exceptions.md R180): it saves nothing and jumps nowhere; `STATE` takes
the error's terminal code and no other register changes. -/
def State.enterFatal (s : State) (e : FatalError) : State := { s with state := e.terminal }

/-- The only way out of a terminal state (R181): every register takes its reset value (10_state.md
R44). The environment's inputs are no registers and go on. -/
def State.resetRegisters (s : State) : State :=
  { State.reset with inputs := s.inputs, cycle := s.cycle }

end Sys2Proof.Machine
end

