-- ==== Sys2Proof/Machine/Operands.lean ====
section
/-! DEFINITION. What a cycle's operation is selected from and computes with: the operation selector
vector formed from the registers and the ports, and the frame byte position of a body byte. -/

namespace Sys2Proof.Machine

/-- The operation selector vector of this cycle (30_encoding.md R80). -/
def osv (s : State) : Osv :=
  packOsv (s.cnt == 0) s.now.rst s.now.xportFail (s.now.inValid && !s.now.sinkHold) s.state.code
    (s.cnt == 1) s.now.inByte

/-- The frame byte position of the next body byte, `LEN + 1 - CNT` in 8 bits (30_encoding.md R82). -/
def bodyPosition (s : State) : Byte := s.len + 1 - s.cnt

/-- The value of `CNT` that goes with the selector bits `Z` and `LAST`: 0, 1, or any other value, for
which `cnt` itself serves when it is neither. `Z` and `LAST` cannot both be 1 (R81); no row of the
table that tests `LAST` takes `Z` = 1, so `Z` decides (log entry 3). -/
def countForSelector (z last : Bool) (cnt : Byte) : Byte :=
  if z then 0
  else if last then 1
  else if cnt = 0 ∨ cnt = 1 then 2
  else cnt

/-- The port values that give the selector bits `RST`, `FAIL`, `V` and `BYTE` of `w`. -/
def inputsForSelector (w : Osv) : Inputs where
  rst := osvRst w
  xportFail := osvFail w
  inValid := osvV w
  sinkHold := false
  inByte := osvByte w

/-- `s` with the parts of the selector vector as `w` has them: `STATE`, `CNT` where `Z` and `LAST`
ask for another value, and this cycle's ports. -/
def State.placeSelector (s : State) (w : Osv) : State :=
  { s with
    state := ProtocolState.ofCode (osvS w)
    cnt := countForSelector (osvZ w) (osvLast w) s.cnt
    inputs := inputsForSelector w :: s.inputs.tail }

end Sys2Proof.Machine
end

