-- ==== Sys2Proof/Machine/FrameOps.lean ====
section
/-! DEFINITION. The frame reader's operations (41_frame_ops.md): rows 7 to 15 of the operation table. -/

namespace Sys2Proof.Machine

/-- `IDLE` (R122): no byte is accepted in a live state; only the defaults. -/
def execIdle (s : State) : Host.Outcome State Fault Refusal := .next s.pulseDefaults

/-- `HDR_PRIMARY` (R123). -/
def execHdrPrimary (b : Byte) (s : State) : Host.Outcome State Fault Refusal :=
  .next { s.pulseDefaults.emit .hdr b 0 with var := true, acc := b, state := .readLen }

/-- `HDR_TRACE` (R124). -/
def execHdrTrace (b : Byte) (s : State) : Host.Outcome State Fault Refusal :=
  .next { s.pulseDefaults.emit .hdr b 0 with var := false, acc := b, state := .readLen }

/-- `HDR_BAD` (R125): Desynchronization, with the offending byte tagged. -/
def execHdrBad (b : Byte) (s : State) : Host.Outcome State Fault Refusal :=
  .next ((s.pulseDefaults.emit .hdr b 0).enterFatal .desynchronization)

/-- `LEN_BODY` (R126). -/
def execLenBody (l : Byte) (s : State) : Host.Outcome State Fault Refusal :=
  .next { s.pulseDefaults.emit .len l 1 with
    len := l, cnt := l - 1, acc := add8 s.acc l, state := .readBody }

/-- `LEN_ONE` (R127): a short frame. -/
def execLenOne (l : Byte) (s : State) : Host.Outcome State Fault Refusal :=
  .next ({ s.pulseDefaults.emit .len l 1 with len := l, acc := add8 s.acc l }.report
    false true (add8 s.acc l) 0x00 l)

/-- `LEN_ZERO` (R128): a short frame, and no body byte is read. -/
def execLenZero (l : Byte) (s : State) : Host.Outcome State Fault Refusal :=
  .next ({ s.pulseDefaults.emit .len l 1 with len := l, acc := add8 s.acc l }.report
    false true s.acc 0x00 0x00)

/-- `BODY_DATA` (R129). -/
def execBodyData (b : Byte) (s : State) : Host.Outcome State Fault Refusal :=
  .next { s.pulseDefaults.emit .payload b (bodyPosition s) with
    acc := add8 s.acc b, cnt := s.cnt - 1 }

/-- `BODY_CHK` (R130): the checksum byte is compared with `ACC`, which is not written. -/
def execBodyChk (c : Byte) (s : State) : Host.Outcome State Fault Refusal :=
  .next ((s.pulseDefaults.emit .chk c (bodyPosition s)).report (s.acc == c) false s.acc c s.len)

end Sys2Proof.Machine
end

