-- ==== Sys2Proof/Machine/SystemOps.lean ====
section
/-! DEFINITION. The system operations (42_system_ops.md): rows 1 to 6 of the operation table. -/

namespace Sys2Proof.Machine

/-- `RESET` (R150). -/
def execReset (s : State) : Host.Outcome State Fault Refusal := .next s.resetRegisters

/-- `HALT_DESYNC` (R152): a cycle in `DESYNC`; only the defaults. -/
def execHaltDesync (s : State) : Host.Outcome State Fault Refusal := .next s.pulseDefaults

/-- `HALT_FAILED` (R153): a cycle in `FAILED`; only the defaults. -/
def execHaltFailed (s : State) : Host.Outcome State Fault Refusal := .next s.pulseDefaults

/-- `XPORT_FAIL` (R151): TransportError. -/
def execXportFail (s : State) : Host.Outcome State Fault Refusal :=
  .next (s.pulseDefaults.enterFatal .transportError)

/-- `ILLEGAL_STATE` (R156): `raise Fault(IllegalState)`, no next state. -/
def execIllegalState (_ : State) : Host.Outcome State Fault Refusal := .fault .illegalState

/-- `ILLEGAL_CNT0` (R157): `raise Fault(IllegalCount)`, no next state. -/
def execIllegalCnt0 (_ : State) : Host.Outcome State Fault Refusal := .fault .illegalCount

end Sys2Proof.Machine
end

