-- ==== Sys2Proof/Machine/Dispatch.lean ====
section
/-! DEFINITION. The meaning of each operation, one arm per row of the operation table. -/

namespace Sys2Proof.Machine

def exec (i : Instr) (s : State) : Host.Outcome State Fault Refusal :=
  match i with
  | .reset => Sys2Proof.Machine.execReset s
  | .haltDesync => Sys2Proof.Machine.execHaltDesync s
  | .haltFailed => Sys2Proof.Machine.execHaltFailed s
  | .illegalState => Sys2Proof.Machine.execIllegalState s
  | .illegalCnt0 => Sys2Proof.Machine.execIllegalCnt0 s
  | .xportFail => Sys2Proof.Machine.execXportFail s
  | .idle => Sys2Proof.Machine.execIdle s
  | .hdrPrimary b => Sys2Proof.Machine.execHdrPrimary b s
  | .hdrTrace b => Sys2Proof.Machine.execHdrTrace b s
  | .hdrBad b => Sys2Proof.Machine.execHdrBad b s
  | .lenZero l => Sys2Proof.Machine.execLenZero l s
  | .lenOne l => Sys2Proof.Machine.execLenOne l s
  | .lenBody l => Sys2Proof.Machine.execLenBody l s
  | .bodyChk c => Sys2Proof.Machine.execBodyChk c s
  | .bodyData b => Sys2Proof.Machine.execBodyData b s

end Sys2Proof.Machine
end

