-- ==== Sys2Proof/Machine/Step.lean ====
section
/-! DEFINITION. One step of the machine: one clock cycle (00_scope.md R11). -/

namespace Sys2Proof.Machine

/-- One rising edge of `clk`: the operation that the registers and this cycle's ports select
(30_encoding.md R80, R83) takes effect, and the next cycle's ports stand ready. -/
def step (s : State) : Host.Outcome State Fault Refusal :=
  match decode (osv s) with
  | .ok i => exec i s.tick
  | .error (.noRowSelects w) => .refused (.noRowSelects w)

/-- `s` with its next operation selected by the word `w` of `nbits` bits (log entry 3): RXFC fetches
no instructions (20_memory.md R63), so the registers and ports that form the selector vector are
set. -/
def State.withFetchWord (s : State) (nbits w : Nat) : State :=
  s.placeSelector (BitVec.ofNat 16 (w % 2 ^ nbits))

end Sys2Proof.Machine
end

