-- ==== Sys2Proof/Machine/Flags.lean ====
section
/-! DEFINITION. The combinational outputs (10_state.md R21, R38, R39, R41; 20_memory.md R53), the
acceptance of a byte, and what a consumer derives from the frame report. The registered outputs are
the fields of `State` of the same name. -/

namespace Sys2Proof.Machine

/-- `in_ready = live(STATE) & !rst & !xport_fail & !sink_hold` (20_memory.md R53). -/
def inReady (s : State) : Bool :=
  s.state.live && !s.now.rst && !s.now.xportFail && !s.now.sinkHold

/-- The byte accepted in this cycle, `StreamRead()`: `in_byte` when `in_valid` and `in_ready` are
both 1, none otherwise (20_memory.md R52). -/
def accepted (s : State) : Option Byte :=
  if s.now.inValid && inReady s then some s.now.inByte else none

/-- `O_STATE = STATE` (R38). -/
def oState (s : State) : BitVec 3 := s.state.code

/-- `O_DESYNC = (STATE == 3)` (R38). -/
def oDesync (s : State) : Bool := s.state == .desync

/-- `O_FAILED = (STATE == 4)` (R38). -/
def oFailed (s : State) : Bool := s.state == .failed

/-- `O_PERSIST = O_DONE & O_PRIMARY` (R41). -/
def oPersist (s : State) : Bool := s.oDone && s.oPrimary

/-- The code of a cause (60_exceptions.md R170). -/
def Cause.code : Cause → BitVec 3
  | .none => 0
  | .transportError => 1
  | .desynchronization => 2
  | .checksumMismatch => 3
  | .shortFrame => 4
  | .frameTooShort => 5
  | .persistError => 6

/-- The cause of the current condition, in R177's order. -/
def cause (s : State) : Cause :=
  if s.state = .failed then .transportError
  else if s.state = .desync then .desynchronization
  else if s.oDone ∧ s.oShort then .shortFrame
  else if s.oDone ∧ s.oOk = false then .checksumMismatch
  else .none

/-- `O_CAUSE` (R39, 60_exceptions.md R177). -/
def oCause (s : State) : BitVec 3 := (cause s).code

/-- The number of payload bytes of the frame last reported, as a consumer derives it: `O_LEN - 2`
when `O_SHORT` is 0, none when it is 1 (R35). -/
def payloadCount (s : State) : Nat := if s.oShort then 0 else s.oLen.toNat - 2

/-- Whether the downstream decoder finds the frame last reported too short, as a consumer can compute
it: a full decode needs `O_SHORT = 0` and `O_LEN >= 18` (60_exceptions.md R175, 30_encoding.md R76).
RXFC itself never computes it (log entry 10). -/
def frameTooShort (s : State) : Bool := s.oShort || decide (s.oLen.toNat < 18)

end Sys2Proof.Machine
end

