-- ==== Sys2Proof/Machine/Stimulus.lean ====
section
/-! DEFINITION. Stimulus scripts, RXFC's "assembly language" (30_encoding.md R89, R90): what a list of
`State.inputs` is written from (log entry 7). -/

namespace Sys2Proof.Machine

/-- One line of a script: the ports of one clock cycle (R89). -/
inductive ScriptLine where
  /-- `B hh`: the transport offers a byte. -/
  | offer (b : Byte)
  /-- `H hh`: the transport offers a byte and the consumer holds it. -/
  | held (b : Byte)
  /-- `I`: no byte is offered. -/
  | quiet
  /-- `F`: the transport fails. -/
  | fail
  /-- `R`: reset. -/
  | reset
  deriving DecidableEq, Repr

/-- A line's encoding: its row of port values. Where R89 says "don't care (taken as 0x00)" the byte
is 0x00. -/
def ScriptLine.inputs : ScriptLine → Inputs
  | .offer b => ⟨false, false, true, false, b⟩
  | .held b => ⟨false, false, true, true, b⟩
  | .quiet => ⟨false, false, false, false, 0x00⟩
  | .fail => ⟨false, true, false, false, 0x00⟩
  | .reset => ⟨true, false, false, false, 0x00⟩

/-- A line of a script or a pseudo-instruction (R90). -/
inductive ScriptItem where
  | line (l : ScriptLine)
  /-- `FRAME hh : p0 ... p(n-1)`, a normal frame with a correct checksum. -/
  | frame (header : Byte) (payload : List Byte)
  /-- `FRAMEX hh LL : b0 ... b(m-1)`, the bytes exactly as written. -/
  | framex (header length : Byte) (body : List Byte)
  /-- `BYTES b0 b1 ...`. -/
  | bytes (bs : List Byte)
  /-- `IDLE k`. -/
  | idle (k : Nat)
  deriving DecidableEq, Repr

/-- `FRAME` takes at most 253 payload bytes (R90). -/
def ScriptItem.wellFormed : ScriptItem → Bool
  | .line _ => true
  | .frame _ payload => decide (payload.length ≤ 253)
  | .framex _ _ _ => true
  | .bytes _ => true
  | .idle _ => true

/-- The bytes of a normal frame but for its checksum byte: header, length `n + 2`, payload. -/
def frameChecked (header : Byte) (payload : List Byte) : List Byte :=
  header :: BitVec.ofNat 8 (payload.length + 2) :: payload

/-- The lines an item expands to (R90). -/
def ScriptItem.expand : ScriptItem → List ScriptLine
  | .line l => [l]
  | .frame header payload =>
    (frameChecked header payload ++ [sum8 (frameChecked header payload)]).map .offer
  | .framex header length body => (header :: length :: body).map .offer
  | .bytes bs => bs.map .offer
  | .idle k => List.replicate k .quiet

/-- The port values of a script, one entry a clock cycle. -/
def scriptInputs (items : List ScriptItem) : List Inputs :=
  (items.flatMap ScriptItem.expand).map ScriptLine.inputs

end Sys2Proof.Machine
end

