-- ==== Sys2Proof/Safety.lean ====
section
/-! DEFINITION. The terms claims about RXFC are made in: where a frame ends, the bytes of the current
frame, the invariants, the transition relation, the environment's duties. Nothing here is used by
the machine. -/

namespace Sys2Proof.Safety

open Sys2Proof.Machine

/-! ## Runs -/

/-- `n` cycles of the machine, stopping at the first fault or refusal: the host's `Core.run` of
`Sys2Proof.core`, at the model's own types. -/
def run (n : Nat) (s : State) : Host.Outcome State Fault Refusal := Host.Core.run core n s

/-! ## The operation table -/

/-- How many of the 65,536 selector vectors select row `n` of the operation table (30_encoding.md
R85). -/
def selectedCount (n : Nat) : Nat :=
  (List.range 65536).countP (fun w =>
    (decode (BitVec.ofNat 16 w)).toOption.map Instr.row == some n)

/-! ## Frames -/

/-- This cycle accepts a frame's last byte: a length of 0 or 1 in `READ_LEN`, or the byte accepted in
`READ_BODY` with `CNT == 1` (30_encoding.md R78). -/
def frameEnds (s : State) : Bool :=
  match accepted s with
  | some b => (s.state == .readLen && decide (b.toNat < 2)) || (s.state == .readBody && s.cnt == 1)
  | none => false

/-- The bytes of the current frame accepted so far, after a cycle in state `s`: a byte accepted in
`AWAIT_HDR` starts a frame, any other accepted byte continues it, and a reset abandons it. -/
def frameBytesAfter (bytes : List Byte) (s : State) : List Byte :=
  match accepted s with
  | some b => if s.state = .awaitHdr then [b] else bytes ++ [b]
  | none => if s.now.rst then [] else bytes

/-- The bytes that a run of cycles offers and the consumer does not hold. -/
def delivered (xs : List Inputs) : List Byte :=
  xs.filterMap (fun x => if x.inValid && !x.sinkHold then some x.inByte else none)

/-- No cycle of the run has `rst` or `xport_fail`. -/
def undisturbed (xs : List Inputs) : Prop := ∀ x ∈ xs, x.rst = false ∧ x.xportFail = false

/-! ## Invariants -/

/-- The invariants of 10_state.md R43, for a state in which `bytes` are the bytes of the current
frame accepted so far, and what R71, R123 and R124 say of the header and of `CNT` before the body. -/
structure FrameInv (bytes : List Byte) (s : State) : Prop where
  /-- R43 (a). -/
  notReserved : s.state.reserved = false
  /-- R43 (b). -/
  count : s.state = .readBody → 2 ≤ s.len.toNat ∧ 1 ≤ s.cnt.toNat ∧ s.cnt.toNat ≤ s.len.toNat - 1
  /-- R43 (c). -/
  position : s.state = .readBody →
    (bodyPosition s).toNat = bytes.length ∧ 2 ≤ bytes.length ∧ bytes.length ≤ s.len.toNat
  /-- R43 (d). -/
  sum : s.state = .readLen ∨ s.state = .readBody → s.acc = sum8 bytes
  /-- A frame in progress begins with a recognized header, and `VAR` holds its variant. -/
  header : s.state = .readLen ∨ s.state = .readBody →
    (bytes.head? = some Config.hdrPrimary ∧ s.var = true) ∨
    (bytes.head? = some Config.hdrTrace ∧ s.var = false)
  /-- In `READ_LEN` the header alone has been accepted. -/
  headerOnly : s.state = .readLen → bytes.length = 1
  /-- In `READ_BODY` the second byte is the declared length. -/
  lengthByte : s.state = .readBody → bytes[1]? = some s.len
  /-- `CNT` is 0 before a body. -/
  countZero : s.state = .awaitHdr ∨ s.state = .readLen → s.cnt = 0

/-- What the output registers say of one another and of the protocol state in every cycle of a run
from reset. -/
structure ReportInv (s : State) : Prop where
  /-- The offending byte stays in `O_BYTE` (60_exceptions.md R172). -/
  desyncTag : s.state = .desync →
    s.oRole = .hdr ∧ s.oBidx = 0 ∧ s.oByte ≠ Config.hdrPrimary ∧ s.oByte ≠ Config.hdrTrace
  /-- A short frame has no checksum, so no match and no expected value (R32 to R34, R179). -/
  shortReport : s.oShort = true → s.oOk = false ∧ s.oExp = 0 ∧ s.oLen.toNat < 2
  /-- A match is an equality of the two diagnostics (R32, R34). -/
  okReport : s.oOk = true → s.oShort = false ∧ s.oCalc = s.oExp
  /-- In the cycle of the pulse the frame is over, its last byte is tagged, and the report is that of
  the frame whose variant and sum the registers still hold (R121). -/
  doneReport : s.oDone = true →
    s.state = .awaitHdr ∧ s.cnt = 0 ∧ s.oBvalid = true ∧ s.oPrimary = s.var ∧ s.oCalc = s.acc ∧
      s.oLen = s.len ∧ (s.oShort = false → (s.oOk = true ↔ s.oCalc = s.oExp))
  /-- In `READ_LEN` the tag last written is the header's (R123, R124). -/
  headerTag : s.state = .readLen → s.oRole = .hdr ∧ s.oBidx = 0 ∧ s.oByte = s.acc

/-- The sixteen registers at their reset values, the table of 10_state.md R44. -/
structure HasResetValues (s : State) : Prop where
  state : s.state = .awaitHdr
  var : s.var = false
  len : s.len = 0x00
  cnt : s.cnt = 0x00
  acc : s.acc = 0x00
  oDone : s.oDone = false
  oPrimary : s.oPrimary = false
  oOk : s.oOk = false
  oShort : s.oShort = false
  oCalc : s.oCalc = 0x00
  oExp : s.oExp = 0x00
  oLen : s.oLen = 0x00
  oBvalid : s.oBvalid = false
  oByte : s.oByte = 0x00
  oRole : s.oRole = .hdr
  oBidx : s.oBidx = 0x00

/-! ## Control flow -/

/-- The transition relation of `STATE` (41_frame_ops.md R140): from, operation, to. -/
def transition (src : ProtocolState) (i : Instr) (dst : ProtocolState) : Prop :=
  match i with
  | .reset => dst = .awaitHdr
  | .hdrPrimary _ => src = .awaitHdr ∧ dst = .readLen
  | .hdrTrace _ => src = .awaitHdr ∧ dst = .readLen
  | .hdrBad _ => src = .awaitHdr ∧ dst = .desync
  | .lenBody _ => src = .readLen ∧ dst = .readBody
  | .lenOne _ => src = .readLen ∧ dst = .awaitHdr
  | .lenZero _ => src = .readLen ∧ dst = .awaitHdr
  | .bodyData _ => src = .readBody ∧ dst = .readBody
  | .bodyChk _ => src = .readBody ∧ dst = .awaitHdr
  | .xportFail => src.live = true ∧ dst = .failed
  | .idle => src.live = true ∧ dst = src
  | .haltDesync => src = .desync ∧ dst = .desync
  | .haltFailed => src = .failed ∧ dst = .failed
  | .illegalState => False
  | .illegalCnt0 => False

/-! ## Two runs over the same bytes -/

/-- Two states that agree on the protocol state, on the environment's inputs, and on the registers
that the current frame has already written: `VAR` and `ACC` from its header on, `LEN` and `CNT` from
its length on (41_frame_ops.md R144). Nothing else need agree. -/
structure SameFrame (s u : State) : Prop where
  state : s.state = u.state
  inputs : s.inputs = u.inputs
  cycle : s.cycle = u.cycle
  header : s.state = .readLen ∨ s.state = .readBody → s.var = u.var ∧ s.acc = u.acc
  length : s.state = .readBody → s.len = u.len ∧ s.cnt = u.cnt

/-! ## The environment's duties -/

/-- The transport's duty from a cycle in state `s` to the next, in state `t`: a byte offered and not
accepted is offered again unchanged, unless the transport fails or the block is reset
(20_memory.md R54, 30_encoding.md R89). -/
def KeepsOffer (s t : State) : Prop :=
  s.now.inValid = true → accepted s = none →
    (t.now.inValid = true ∧ t.now.inByte = s.now.inByte) ∨ t.now.xportFail = true ∨ t.now.rst = true

end Sys2Proof.Safety
end

