-- ==== Sys2Proof/Certificates/Slice0/Obligations.lean ====
section
/-! DEFINITION. The statements about RXFC, for the provers: each says what it formalises. -/

open Sys2Proof Sys2Proof.Machine Sys2Proof.Safety

/-- A step runs the operation that its selector vector selects. What a step adds around `exec` is
only that this cycle's port values are spent (log entry 1). R11, R80, R83. -/
def Obligations.DecodedOperationRuns : Prop :=
  ∀ (s : State) (i : Instr), decode (osv s) = .ok i →
    i.wellFormed = true ∧ step s = exec i s.tick ∧
      s.tick = { s with inputs := s.inputs.tail, cycle := s.cycle + 1 }

/-- A word placed by withFetchWord is the word the next step runs. withFetchWord is the model's
own convention (log entry 3): RXFC fetches no instructions (R63). -/
def Obligations.PlacedWordIsTheWordRun : Prop :=
  ∀ (s : State) (w : Nat), w < 65536 →
    decode (osv (s.withFetchWord 16 w)) = decode (BitVec.ofNat 16 w) ∧
    (∃ i, decodeTableWord 16 w = some i ∧
      step (s.withFetchWord 16 w) = exec i (s.withFetchWord 16 w).tick) ∧
    ∃ (st : ProtocolState) (c : Byte) (x : Inputs),
      s.withFetchWord 16 w = { s with state := st, cnt := c, inputs := x :: s.inputs.tail }

/-- Each bit of the operation selector vector, and that it alone selects the operation. R80, the
whole table of fields. The second clause is its sentence "The operation it performs is a function
of `OSV` alone." -/
def Obligations.SelectorVectorBitsAndNothingElseSelect : Prop :=
  (∀ s : State,
    (osv s).getLsbD 15 = (s.cnt == 0) ∧
    (osv s).getLsbD 14 = s.now.rst ∧
    (osv s).getLsbD 13 = s.now.xportFail ∧
    (osv s).getLsbD 12 = (s.now.inValid && !s.now.sinkHold) ∧
    (osv s).extractLsb' 9 3 = s.state.code ∧
    (osv s).getLsbD 8 = (s.cnt == 1) ∧
    (osv s).extractLsb' 0 8 = s.now.inByte) ∧
  (∀ s u : State, osv s = osv u → ∃ i, step s = exec i s.tick ∧ step u = exec i u.tick)

/-- The operation table: its masks and matches, and when each row is selected. R84: the mask and
match columns, then the "selects when" column, each line read under "given no earlier row
matched". -/
def Obligations.OperationTableRowsSelectAsListed : Prop :=
  opTable.map (fun r => (r.mask, r.pattern)) =
    [(0x4000, 0x4000), (0x4E00, 0x0600), (0x4E00, 0x0800), (0x4800, 0x0800), (0xCE00, 0x8400),
     (0x6000, 0x2000), (0x7000, 0x0000), (0x7EFF, 0x1072), (0x7EFF, 0x101C), (0x7E00, 0x1000),
     (0x7EFF, 0x1200), (0x7EFF, 0x1201), (0x7E00, 0x1200), (0xFF00, 0x1500), (0xFF00, 0x1400)] ∧
  opTable.map (fun r => (r.operation 0x00).row) = [1, 2, 3, 4, 5, 6, 7, 8, 9, 10, 11, 12, 13, 14, 15] ∧
  ∀ s : State, decode (osv s) = .ok (
    if s.now.rst = true then .reset
    else if s.state = .desync then .haltDesync
    else if s.state = .failed then .haltFailed
    else if s.state.reserved = true then .illegalState
    else if s.state = .readBody ∧ s.cnt = 0 then .illegalCnt0
    else if s.now.xportFail = true then .xportFail
    else if s.now.inValid = false ∨ s.now.sinkHold = true then .idle
    else if s.state = .awaitHdr then
      if s.now.inByte = 0x72 then .hdrPrimary s.now.inByte
      else if s.now.inByte = 0x1C then .hdrTrace s.now.inByte
      else .hdrBad s.now.inByte
    else if s.state = .readLen then
      if s.now.inByte = 0x00 then .lenZero s.now.inByte
      else if s.now.inByte = 0x01 then .lenOne s.now.inByte
      else .lenBody s.now.inByte
    else if s.cnt = 1 then .bodyChk s.now.inByte
    else .bodyData s.now.inByte)

/-- The operation selected is that of the first row whose mask and match fit. R83: "the first row,
in the order of rule R84, for which `(OSV & mask) == match`". -/
def Obligations.FirstMatchingRowIsSelected : Prop :=
  ∀ (w : Osv) (i : Instr), decode w = .ok i ↔
    ∃ (earlier : List OpRow) (r : OpRow) (later : List OpRow), opTable = earlier ++ r :: later ∧
      w &&& r.mask = r.pattern ∧ (∀ q ∈ earlier, w &&& q.mask ≠ q.pattern) ∧
      i = r.operation (osvByte w)

/-- The operation table is total and its rows select the listed numbers of vectors. R85, both
sentences; `selectedCount n` counts the vectors among the 65,536 that select row n. -/
def Obligations.TableIsTotalWithTheListedCounts : Prop :=
  (∀ w : Osv, ∃ i, decode w = .ok i) ∧
  selectedCount 1 = 32768 ∧ selectedCount 4 = 12288 ∧ selectedCount 6 = 5120 ∧
  selectedCount 2 = 4096 ∧ selectedCount 3 = 4096 ∧ selectedCount 7 = 2560 ∧
  selectedCount 5 = 2048 ∧ selectedCount 10 = 1016 ∧ selectedCount 13 = 1016 ∧
  selectedCount 15 = 256 ∧ selectedCount 14 = 256 ∧ selectedCount 8 = 4 ∧ selectedCount 9 = 4 ∧
  selectedCount 11 = 4 ∧ selectedCount 12 = 4

/-- Decoding the encoding of a well-formed operation gives it back. The encoder is written from
R84's "selects when" column and R80's fields, the decoder from its masks and matches. -/
def Obligations.DecodeOfEncodeIsTheOperation : Prop :=
  ∀ i : Instr, i.wellFormed = true → decode (encode i) = .ok i

/-- What the decoder gives is well formed and carries the vector's byte. R82: at most one operand,
the accepted byte `BYTE`; R84: which bytes each row admits. -/
def Obligations.DecodedOperationsAreWellFormed : Prop :=
  ∀ (w : Osv) (i : Instr), decode w = .ok i →
    i.wellFormed = true ∧ (∀ b, i.operand = some b → b = osvByte w) ∧ decode (encode i) = .ok i

/-- Selector words of the spec's vectors decode to the operations it names. The OSV columns of
95_test_vectors.md: V-S1, V-S6, V-S7, V-S9, V-S10, V-S4, V-B10, V-H1, V-H2, V-H3, V-L6, V-L5,
V-L4, V-B5, V-B1. -/
def Obligations.SelectorWordsOfTheVectorsDecode : Prop :=
  decode 0x4400 = .ok .reset ∧ decode 0x9672 = .ok .haltDesync ∧ decode 0x9872 = .ok .haltFailed ∧
  decode 0x9A72 = .ok .illegalState ∧ decode 0x9472 = .ok .illegalCnt0 ∧
  decode 0xB206 = .ok .xportFail ∧ decode 0x0444 = .ok .idle ∧
  decode 0x9072 = .ok (.hdrPrimary 0x72) ∧ decode 0x901C = .ok (.hdrTrace 0x1C) ∧
  decode 0x9099 = .ok (.hdrBad 0x99) ∧ decode 0x9200 = .ok (.lenZero 0x00) ∧
  decode 0x9201 = .ok (.lenOne 0x01) ∧ decode 0x92FF = .ok (.lenBody 0xFF) ∧
  decode 0x15FF = .ok (.bodyChk 0xFF) ∧ decode 0x14AA = .ok (.bodyData 0xAA)

/-- A byte is accepted exactly on the handshake, and an unaccepted byte is ignored. R52. The
second clause says "ignored" by comparing two runs that differ only in `in_byte`. -/
def Obligations.AcceptanceIsTheHandshakeAndIgnoresOtherBytes : Prop :=
  (∀ (s : State) (b : Byte), accepted s = some b ↔
    s.now.inValid = true ∧ inReady s = true ∧ s.now.inByte = b) ∧
  (∀ (s : State) (x : Inputs) (later : List Inputs) (b : Byte), s.inputs = x :: later →
    x.inValid = false ∨ inReady s = false →
    accepted s = none ∧ step { s with inputs := { x with inByte := b } :: later } = step s)

/-- Z and LAST are CNT compared with 0 and 1 and exclude each other; V in a live state means
acceptance. R81, sentence by sentence. -/
def Obligations.SelectorFieldsMeanAcceptance : Prop :=
  (∀ s : State, osvZ (osv s) = (s.cnt == 0) ∧ osvLast (osv s) = (s.cnt == 1)) ∧
  (∀ s : State, ¬ (osvZ (osv s) = true ∧ osvLast (osv s) = true)) ∧
  (∀ w : Osv, osvZ w = true → osvLast w = true → ∃ i, decode w = .ok i) ∧
  (∀ s : State, s.state.live = true → osvV (osv s) = true → osvFail (osv s) = false →
    osvRst (osv s) = false →
    inReady s = true ∧ s.now.inValid = true ∧ accepted s = some s.now.inByte)

/-- The operation's operand is exactly the byte accepted in the cycle. R52, R53, R82: the
handshake and the table agree on when a byte is consumed. -/
def Obligations.AcceptedByteIsTheOperand : Prop :=
  ∀ (s : State) (i : Instr), decode (osv s) = .ok i → i ≠ .illegalCnt0 → i.operand = accepted s

/-- IDLE: only the two pulses fall, and it changes no later operation's result. R122. The last
clause is its corner case "It does not change the outcome of the frame". -/
def Obligations.IdleLowersThePulsesAndIsTransparent : Prop :=
  (∀ s : State, exec .idle s = .next { s with oDone := false, oBvalid := false }) ∧
  (∀ s : State, s.state.live = true → ¬ (s.state = .readBody ∧ s.cnt = 0) → s.now.rst = false →
    s.now.xportFail = false → s.now.inValid = false ∨ s.now.sinkHold = true →
    accepted s = none ∧ step s = .next { s.tick with oDone := false, oBvalid := false }) ∧
  (∀ (s t : State) (i : Instr), exec .idle s = .next t → exec i t = exec i s)

/-- HDR_PRIMARY: the variant, the accumulator, the state and the tag it writes. R123: operand,
encoding, pseudocode, flags and corner case; "CNT is 0 there" is said of states that meet
`FrameInv`. -/
def Obligations.PrimaryHeaderStartsAFrame : Prop :=
  (∀ (b : Byte) (s : State), exec (.hdrPrimary b) s = .next { s with
    var := true, acc := b, state := .readLen, oDone := false,
    oBvalid := true, oByte := b, oRole := .hdr, oBidx := 0 }) ∧
  (∀ s : State, s.state = .awaitHdr → accepted s = some 0x72 → step s = .next { s.tick with
    var := true, acc := 0x72, state := .readLen, oDone := false,
    oBvalid := true, oByte := 0x72, oRole := .hdr, oBidx := 0 }) ∧
  (∀ (bytes : List Byte) (s t : State), FrameInv bytes s → s.state = .awaitHdr →
    accepted s = some 0x72 → step s = .next t → s.cnt = 0 ∧ t.cnt = 0)

/-- HDR_TRACE: the variant, the accumulator, the state and the tag it writes. R124: operand,
encoding, pseudocode, flags and corner case; "CNT is 0 there" is said of states that meet
`FrameInv`. -/
def Obligations.TraceHeaderStartsAFrame : Prop :=
  (∀ (b : Byte) (s : State), exec (.hdrTrace b) s = .next { s with
    var := false, acc := b, state := .readLen, oDone := false,
    oBvalid := true, oByte := b, oRole := .hdr, oBidx := 0 }) ∧
  (∀ s : State, s.state = .awaitHdr → accepted s = some 0x1C → step s = .next { s.tick with
    var := false, acc := 0x1C, state := .readLen, oDone := false,
    oBvalid := true, oByte := 0x1C, oRole := .hdr, oBidx := 0 }) ∧
  (∀ (bytes : List Byte) (s t : State), FrameInv bytes s → s.state = .awaitHdr →
    accepted s = some 0x1C → step s = .next t → s.cnt = 0 ∧ t.cnt = 0)

/-- HDR_BAD: the move to DESYNC with the offending byte tagged, and nothing else. R125 and R172,
the fatal entry of R180 among them. -/
def Obligations.UnrecognizedHeaderDesynchronizes : Prop :=
  (∀ (b : Byte) (s : State), exec (.hdrBad b) s = .next { s with
    state := .desync, oDone := false, oBvalid := true, oByte := b, oRole := .hdr, oBidx := 0 }) ∧
  (∀ (b : Byte) (s : State), s.state = .awaitHdr → accepted s = some b → b ≠ 0x72 → b ≠ 0x1C →
    ∃ t, step s = .next t ∧ t = { s.tick with
        state := .desync, oDone := false, oBvalid := true, oByte := b, oRole := .hdr, oBidx := 0 } ∧
      oDesync t = true ∧ oCause t = 2 ∧ inReady t = false ∧ accepted t = none) ∧
  (∀ s t : State, s.state = .desync → step s = .next t → s.now.rst = false →
    t.state = .desync ∧ accepted s = none)

/-- LEN_BODY: the length, the byte counter, the accumulator, the state and the tag. R126. -/
def Obligations.NormalLengthStartsTheBody : Prop :=
  (∀ (l : Byte) (s : State), exec (.lenBody l) s = .next { s with
    len := l, cnt := l - 1, acc := add8 s.acc l, state := .readBody, oDone := false,
    oBvalid := true, oByte := l, oRole := .len, oBidx := 1 }) ∧
  (∀ (l : Byte) (s : State), s.state = .readLen → accepted s = some l → 2 ≤ l.toNat →
    step s = .next { s.tick with
      len := l, cnt := l - 1, acc := add8 s.acc l, state := .readBody, oDone := false,
      oBvalid := true, oByte := l, oRole := .len, oBidx := 1 } ∧
    (l - 1).toNat = l.toNat - 1 ∧ 1 ≤ (l - 1).toNat ∧ (l - 1).toNat ≤ 254)

/-- LEN_ONE: a short frame ends with its length byte and is reported. R127, with `REPORT` of R121
written out. -/
def Obligations.LengthOneEndsAShortFrame : Prop :=
  (∀ (l : Byte) (s : State), exec (.lenOne l) s = .next { s with
    len := l, acc := add8 s.acc l, oBvalid := true, oByte := l, oRole := .len, oBidx := 1,
    oDone := true, oPrimary := s.var, oOk := false, oShort := true, oCalc := add8 s.acc l,
    oExp := 0x00, oLen := l, cnt := 0x00, state := .awaitHdr }) ∧
  (∀ s : State, s.state = .readLen → accepted s = some 0x01 → ∃ t, step s = .next t ∧
    t = { s.tick with
      len := 0x01, acc := add8 s.acc 0x01, oBvalid := true, oByte := 0x01, oRole := .len, oBidx := 1,
      oDone := true, oPrimary := s.var, oOk := false, oShort := true, oCalc := add8 s.acc 0x01,
      oExp := 0x00, oLen := 0x01, cnt := 0x00, state := .awaitHdr } ∧
    oCause t = 4 ∧ oPersist t = s.var)

/-- LEN_ZERO: a short frame ends with its length byte and is reported. R128, with `REPORT` of R121
written out. -/
def Obligations.LengthZeroEndsAShortFrame : Prop :=
  (∀ (l : Byte) (s : State), exec (.lenZero l) s = .next { s with
    len := l, acc := add8 s.acc l, oBvalid := true, oByte := l, oRole := .len, oBidx := 1,
    oDone := true, oPrimary := s.var, oOk := false, oShort := true, oCalc := s.acc,
    oExp := 0x00, oLen := 0x00, cnt := 0x00, state := .awaitHdr }) ∧
  (∀ s : State, s.state = .readLen → accepted s = some 0x00 → ∃ t, step s = .next t ∧
    t = { s.tick with
      len := 0x00, acc := add8 s.acc 0x00, oBvalid := true, oByte := 0x00, oRole := .len, oBidx := 1,
      oDone := true, oPrimary := s.var, oOk := false, oShort := true, oCalc := s.acc,
      oExp := 0x00, oLen := 0x00, cnt := 0x00, state := .awaitHdr } ∧
    oCause t = 4 ∧ oPersist t = s.var ∧ t.acc = s.acc)

/-- BODY_DATA: the accumulator, the byte counter and the tag at its position. R129; the range of
`pos` is said of states that meet `FrameInv`. -/
def Obligations.PayloadByteIsAddedAndCounted : Prop :=
  (∀ (b : Byte) (s : State), exec (.bodyData b) s = .next { s with
    acc := add8 s.acc b, cnt := s.cnt - 1, oDone := false,
    oBvalid := true, oByte := b, oRole := .payload, oBidx := s.len + 1 - s.cnt }) ∧
  (∀ (b : Byte) (s : State), s.state = .readBody → 2 ≤ s.cnt.toNat → accepted s = some b →
    step s = .next { s.tick with
      acc := add8 s.acc b, cnt := s.cnt - 1, oDone := false,
      oBvalid := true, oByte := b, oRole := .payload, oBidx := s.len + 1 - s.cnt } ∧
    (s.cnt - 1).toNat = s.cnt.toNat - 1 ∧ 1 ≤ (s.cnt - 1).toNat) ∧
  (∀ (bytes : List Byte) (s : State), FrameInv bytes s → s.state = .readBody → 2 ≤ s.cnt.toNat →
    (s.len + 1 - s.cnt).toNat = s.len.toNat + 1 - s.cnt.toNat ∧
    2 ≤ (s.len + 1 - s.cnt).toNat ∧ (s.len + 1 - s.cnt).toNat ≤ s.len.toNat - 1)

/-- BODY_CHK: the comparison, the frame report and the tag; ACC is kept. R130 and R173, with
`REPORT` of R121 written out. -/
def Obligations.ChecksumByteIsComparedAndTheFrameReported : Prop :=
  (∀ (c : Byte) (s : State), exec (.bodyChk c) s = .next { s with
    oBvalid := true, oByte := c, oRole := .chk, oBidx := s.len + 1 - s.cnt,
    oDone := true, oPrimary := s.var, oOk := s.acc == c, oShort := false, oCalc := s.acc,
    oExp := c, oLen := s.len, cnt := 0x00, state := .awaitHdr }) ∧
  (∀ (c : Byte) (s : State), s.state = .readBody → s.cnt = 1 → accepted s = some c →
    ∃ t, step s = .next t ∧ t = { s.tick with
      oBvalid := true, oByte := c, oRole := .chk, oBidx := s.len,
      oDone := true, oPrimary := s.var, oOk := s.acc == c, oShort := false, oCalc := s.acc,
      oExp := c, oLen := s.len, cnt := 0x00, state := .awaitHdr } ∧
    (s.acc ≠ c → oCause t = 3) ∧ (s.acc = c → oCause t = 0) ∧ oPersist t = s.var)

/-- RESET: every register to its reset value, from every state, ahead of every other input. R150. -/
def Obligations.ResetWinsInEveryState : Prop :=
  (∀ s : State, exec .reset s = .next { State.reset with inputs := s.inputs, cycle := s.cycle }) ∧
  (∀ s : State, s.now.rst = true → inReady s = false ∧ accepted s = none ∧
    step s = .next { State.reset with inputs := s.tick.inputs, cycle := s.tick.cycle }) ∧
  (∀ s t u : State, s.now.rst = true → step s = .next t → t.now.rst = true → step t = .next u →
    u = { t with inputs := t.tick.inputs, cycle := t.tick.cycle }) ∧
  (∀ s t : State, s.state = .desync ∨ s.state = .failed → step s = .next t → t.state ≠ s.state →
    s.now.rst = true)

/-- XPORT_FAIL: the move to FAILED and nothing else but the pulse defaults. R151 and R171. -/
def Obligations.TransportFailureEntersFailed : Prop :=
  (∀ s : State, exec .xportFail s = .next { s with
    state := .failed, oDone := false, oBvalid := false }) ∧
  (∀ s : State, s.state.live = true → ¬ (s.state = .readBody ∧ s.cnt = 0) → s.now.rst = false →
    s.now.xportFail = true → accepted s = none ∧ ∃ t, step s = .next t ∧
      t = { s.tick with state := .failed, oDone := false, oBvalid := false } ∧
      oFailed t = true ∧ oCause t = 1 ∧ inReady t = false)

/-- HALT_DESYNC: only the pulse defaults, whatever the inputs but rst. R152. -/
def Obligations.DesyncHoldsUntilReset : Prop :=
  (∀ s : State, exec .haltDesync s = .next { s with oDone := false, oBvalid := false }) ∧
  (∀ s : State, s.state = .desync → s.now.rst = false →
    inReady s = false ∧ accepted s = none ∧ oCause s = 2 ∧ ∃ t, step s = .next t ∧
      t = { s.tick with oDone := false, oBvalid := false } ∧ t.state = .desync ∧ oCause t = 2)

/-- HALT_FAILED: only the pulse defaults, whatever the inputs but rst. R153. -/
def Obligations.FailedHoldsUntilReset : Prop :=
  (∀ s : State, exec .haltFailed s = .next { s with oDone := false, oBvalid := false }) ∧
  (∀ s : State, s.state = .failed → s.now.rst = false →
    inReady s = false ∧ accepted s = none ∧ oCause s = 1 ∧ ∃ t, step s = .next t ∧
      t = { s.tick with oDone := false, oBvalid := false } ∧ t.state = .failed ∧ oCause t = 1)

/-- ILLEGAL_STATE: the model faults and has no next state. R156. The last clause is its "cannot be
reached from reset". -/
def Obligations.ReservedStateCodeFaults : Prop :=
  (∀ s : State, exec .illegalState s = .fault .illegalState) ∧
  (∀ s : State, s.state.reserved = true → s.now.rst = false → step s = .fault .illegalState) ∧
  (∀ (n : Nat) (xs : List Inputs) (s : State),
    run n { State.reset with inputs := xs } = .next s → ¬ (s.state.reserved = true))

/-- ILLEGAL_CNT0: the model faults and has no next state. R157. The last clause is its "cannot be
reached from reset". -/
def Obligations.BodyWithZeroCountFaults : Prop :=
  (∀ s : State, exec .illegalCnt0 s = .fault .illegalCount) ∧
  (∀ s : State, s.state = .readBody → s.cnt = 0 → s.now.rst = false → step s = .fault .illegalCount) ∧
  (∀ (n : Nat) (xs : List Inputs) (s : State),
    run n { State.reset with inputs := xs } = .next s → ¬ (s.state = .readBody ∧ s.cnt = 0))

/-- After a cycle with rst every register and output holds its listed value. R44. -/
def Obligations.ResetLeavesTheListedValues : Prop :=
  HasResetValues State.reset ∧
  ∀ s : State, s.now.rst = true → ∃ t, step s = .next t ∧ HasResetValues t ∧
    oState t = 0 ∧ oDesync t = false ∧ oFailed t = false ∧ oPersist t = false ∧ oCause t = 0 ∧
    (t.now.rst = false → t.now.xportFail = false → t.now.sinkHold = false → inReady t = true)

/-- Every step is a listed transition of STATE and every listed transition occurs. R140, both
directions of "complete". `transition` is its table. -/
def Obligations.StateMovesOnlyAsListed : Prop :=
  (∀ s t : State, step s = .next t → ∃ i, decode (osv s) = .ok i ∧ transition s.state i t.state) ∧
  (∀ (src : ProtocolState) (i : Instr) (dst : ProtocolState), i.wellFormed = true →
    transition src i dst → ∃ s t : State, s.state = src ∧ decode (osv s) = .ok i ∧
      step s = .next t ∧ t.state = dst)

/-- The reset state meets the frame and report invariants. R43, "From reset". The inputs and the
cycle number are the model's own fields (log entries 1 and 2). -/
def Obligations.ResetMeetsTheInvariants : Prop :=
  ∀ (xs : List Inputs) (n : Nat),
    FrameInv [] { State.reset with inputs := xs, cycle := n } ∧
    ReportInv { State.reset with inputs := xs, cycle := n }

/-- Every step keeps the invariants of R43, with the frame's bytes as its ghost. R43 (a) to (d),
for every state that meets them, not only those that runs from reset reach. The clauses on the
header and on `CNT` before the body are the model's strengthening, read from R123, R124 and R121. -/
def Obligations.EveryStepKeepsTheFrameInvariants : Prop :=
  ∀ (bytes : List Byte) (s : State), FrameInv bytes s →
    ∃ t, step s = .next t ∧ FrameInv (frameBytesAfter bytes s) t

/-- Every step keeps what the output registers say of one another. R32, R33, R121, R172, R179. -/
def Obligations.EveryStepKeepsTheReportInvariants : Prop :=
  ∀ s t : State, ReportInv s → step s = .next t → ReportInv t

/-- A step faults exactly in the two reserved classes, and is never refused. R88, R156, R157;
"never refused" rests on the table's totality (R85). -/
def Obligations.StepStopsOnlyInTheReservedStates : Prop :=
  (∀ s : State, step s = .fault .illegalState ↔ s.now.rst = false ∧ s.state.reserved = true) ∧
  (∀ s : State, step s = .fault .illegalCount ↔
    s.now.rst = false ∧ s.state = .readBody ∧ s.cnt = 0) ∧
  (∀ (s : State) (r : Refusal), step s ≠ .refused r)

/-- No run from reset, whatever its inputs, ever faults or is refused. R43's "From reset", and
R185: the block can always go on. -/
def Obligations.RunsFromResetNeverStop : Prop :=
  ∀ (xs : List Inputs) (n : Nat), ∃ t,
    run n { State.reset with inputs := xs } = .next t

/-- From a terminal state any number of cycles without rst keeps it; rst leaves it. R181 and R155,
over runs of any length and any other inputs. `s.inputAt k` are the ports of the cycle k cycles
on. -/
def Obligations.TerminalStatesLastUntilReset : Prop :=
  ∀ (s : State) (n : Nat), s.state = .desync ∨ s.state = .failed →
    (∀ k, k < n → (s.inputAt k).rst = false) →
    ∃ t, run n s = .next t ∧
      t = { s with oDone := t.oDone, oBvalid := t.oBvalid, inputs := t.inputs, cycle := t.cycle } ∧
      (0 < n → t.oDone = false ∧ t.oBvalid = false) ∧
      inReady t = false ∧ accepted t = none ∧ oState t = oState s ∧ oCause t = oCause s ∧
      t.now = s.inputAt n ∧
      ((s.inputAt n).rst = true → ∃ u, step t = .next u ∧ HasResetValues u)

/-- add8 and sum8 are addition and summation modulo 256. R100 and R101. -/
def Obligations.ChecksumArithmeticIsSumModulo256 : Prop :=
  (∀ a b : Byte, (add8 a b).toNat = (a.toNat + b.toNat) % 256) ∧ add8 0xFF 0x01 = 0x00 ∧
  sum8 [] = 0 ∧
  (∀ (bs : List Byte) (b : Byte), sum8 (bs ++ [b]) = add8 (sum8 bs) b) ∧
  (∀ bs : List Byte, (sum8 bs).toNat = (bs.map (fun b => b.toNat)).sum % 256)

/-- verify of a sequence against its own checksum holds, and such a frame ends with O_OK. R107,
both sentences; `bytes` are the frame's first `L` bytes. -/
def Obligations.VerifyRoundTrips : Prop :=
  (∀ bs : List Byte, verify bs (checksum bs) = true) ∧
  (∀ (bytes : List Byte) (s : State), FrameInv bytes s → s.state = .readBody → s.cnt = 1 →
    accepted s = some (checksum bytes) → bytes.length = s.len.toNat ∧
      ∃ t, step s = .next t ∧ t.oDone = true ∧ t.oOk = true)

/-- ACC is the sum of the frame's bytes so far, so the comparison is verify. R108, from every
state that meets the frame invariants. -/
def Obligations.AccumulatorTracksTheFrameSum : Prop :=
  (∀ (bytes : List Byte) (s t : State), FrameInv bytes s → step s = .next t →
    t.state = .readLen ∨ t.state = .readBody → t.acc = sum8 (frameBytesAfter bytes s)) ∧
  (∀ (bytes : List Byte) (s : State) (c : Byte), FrameInv bytes s → s.state = .readBody →
    s.cnt = 1 → accepted s = some c → bytes.length = s.len.toNat ∧
      ∃ t, step s = .next t ∧ t.oOk = verify bytes c ∧ t.oCalc = checksum bytes ∧ t.oExp = c)

/-- What the checksum detects: order never, one change always, two exactly when they do not
cancel. R109; the source-less remark that nothing depends on it needs no statement. -/
def Obligations.ChecksumMissesOrderAndCancellingPairsDetectsSingleChanges : Prop :=
  (∀ (bs cs : List Byte) (c : Byte), bs.Perm cs → verify cs c = verify bs c) ∧
  (∀ (pre post : List Byte) (b d : Byte), d ≠ 0 →
    verify (pre ++ (b + d) :: post) (checksum (pre ++ b :: post)) = false) ∧
  (∀ (bs : List Byte) (c : Byte), c ≠ checksum bs → verify bs c = false) ∧
  (∀ (pre mid post : List Byte) (a b d1 d2 : Byte),
    verify (pre ++ (a + d1) :: mid ++ (b + d2) :: post) (checksum (pre ++ a :: mid ++ b :: post)) = true ↔
      d1 + d2 = 0)

/-- O_DONE is 1 exactly after a frame end, never twice in a row, and 0 after reset. R30. -/
def Obligations.DonePulseMarksTheFrameEnd : Prop :=
  (∀ s t : State, step s = .next t → (t.oDone = true ↔ frameEnds s = true)) ∧
  (∀ s t u : State, step s = .next t → step t = .next u → ¬ (t.oDone = true ∧ u.oDone = true)) ∧
  State.reset.oDone = false

/-- O_PRIMARY, O_OK, O_SHORT, O_CALC and O_EXP: what a frame end loads, and that they hold. R31 to
R34; "1 for a primary frame" and "the computed sum" are said of states that meet `FrameInv`. -/
def Obligations.ReportRegistersChangeOnlyAtAFrameEnd : Prop :=
  (∀ (s t : State) (c : Byte), step s = .next t → frameEnds s = true → accepted s = some c →
    t.oPrimary = s.var ∧
    (s.state = .readBody →
      t.oOk = (s.acc == c) ∧ t.oShort = false ∧ t.oCalc = s.acc ∧ t.oExp = c) ∧
    (s.state = .readLen →
      t.oOk = false ∧ t.oShort = true ∧ t.oCalc = add8 s.acc c ∧ t.oExp = 0 ∧ c.toNat < 2)) ∧
  (∀ s t : State, step s = .next t → frameEnds s = false → s.now.rst = false →
    t.oPrimary = s.oPrimary ∧ t.oOk = s.oOk ∧ t.oShort = s.oShort ∧ t.oCalc = s.oCalc ∧
      t.oExp = s.oExp) ∧
  (∀ s t : State, step s = .next t → s.now.rst = true →
    t.oPrimary = false ∧ t.oOk = false ∧ t.oShort = false ∧ t.oCalc = 0 ∧ t.oExp = 0) ∧
  (∀ (bytes : List Byte) (s t : State), FrameInv bytes s → step s = .next t → frameEnds s = true →
    (t.oPrimary = true ↔ bytes.head? = some Config.hdrPrimary) ∧
    (t.oPrimary = false ↔ bytes.head? = some Config.hdrTrace) ∧
    t.oCalc = sum8 (if t.oShort = true then frameBytesAfter bytes s else bytes))

/-- O_LEN is the ended frame's declared length and gives its payload byte count. R35, at the ends
of frames from states that meet the frame invariants. -/
def Obligations.ReportedLengthGivesThePayloadCount : Prop :=
  (∀ (bytes : List Byte) (s t : State), FrameInv bytes s → step s = .next t → frameEnds s = true →
    (frameBytesAfter bytes s)[1]? = some t.oLen ∧
    payloadCount t = (frameBytesAfter bytes s).length - 3 ∧
    (t.oShort = false → payloadCount t = t.oLen.toNat - 2) ∧
    (t.oShort = true → payloadCount t = 0)) ∧
  (∀ s t : State, step s = .next t → frameEnds s = false → s.now.rst = false → t.oLen = s.oLen) ∧
  (∀ s t : State, step s = .next t → s.now.rst = true → t.oLen = 0) ∧ State.reset.oLen = 0

/-- The byte tag: valid after each accepted byte, with its value, role and position; else held.
R36, with the roles of R37. -/
def Obligations.ByteTagsReportEachAcceptedByte : Prop :=
  (∀ s t : State, step s = .next t → t.oBvalid = (accepted s).isSome) ∧
  (∀ (s t : State) (b : Byte), step s = .next t → accepted s = some b → t.oByte = b ∧
    (s.state = .awaitHdr → t.oRole = .hdr ∧ t.oBidx = 0) ∧
    (s.state = .readLen → t.oRole = .len ∧ t.oBidx = 1) ∧
    (s.state = .readBody → t.oRole = (if s.cnt = 1 then .chk else .payload) ∧
      t.oBidx = s.len + 1 - s.cnt)) ∧
  (∀ (bytes : List Byte) (s t : State) (b : Byte), FrameInv bytes s → step s = .next t →
    accepted s = some b → t.oBidx.toNat + 1 = (frameBytesAfter bytes s).length) ∧
  (∀ s t : State, step s = .next t → accepted s = none → s.now.rst = false →
    t.oByte = s.oByte ∧ t.oRole = s.oRole ∧ t.oBidx = s.oBidx) ∧
  (∀ s t : State, step s = .next t → s.now.rst = true →
    t.oBvalid = false ∧ t.oByte = 0 ∧ t.oRole.code = 0 ∧ t.oBidx = 0) ∧
  State.reset.oBvalid = false ∧ State.reset.oByte = 0 ∧ State.reset.oRole.code = 0 ∧
    State.reset.oBidx = 0

/-- O_PERSIST is 1 exactly after a primary frame's end, whatever its checksum or length. R41, and
R143. -/
def Obligations.PersistIsExactlyAPrimaryFrameEnd : Prop :=
  (∀ s : State, oPersist s = (s.oDone && s.oPrimary)) ∧
  (∀ s t : State, step s = .next t → (oPersist t = true ↔ frameEnds s = true ∧ s.var = true)) ∧
  (∀ (bytes : List Byte) (s t : State), FrameInv bytes s → step s = .next t → frameEnds s = true →
    (bytes.head? = some Config.hdrPrimary → oPersist t = true) ∧
    (bytes.head? = some Config.hdrTrace → oPersist t = false))

/-- O_CAUSE after a step, from the event of the cycle. R170, R174, R177, R178, R179. -/
def Obligations.CauseFollowsTheEventOfTheCycle : Prop :=
  (∀ s t : State, step s = .next t → oCause t =
    if t.state = .failed then 1
    else if t.state = .desync then 2
    else if frameEnds s = true ∧ s.state = .readLen then 4
    else if frameEnds s = true ∧ accepted s ≠ some s.acc then 3
    else 0) ∧
  (∀ s : State, oCause s ≠ 5 ∧ oCause s ≠ 6 ∧ oCause s ≠ 7) ∧
  (∀ (s t : State) (b : Byte), step s = .next t → accepted s = some b →
    (s.state = .awaitHdr → oCause t = 0 ∨ oCause t = 2) ∧
    (s.state = .readLen → oCause t = 0 ∨ oCause t = 4) ∧
    (s.state = .readBody → s.cnt = 1 → oCause t = 0 ∨ oCause t = 3) ∧
    (s.state = .readBody → s.cnt ≠ 1 → oCause t = 0))

/-- O_STATE is the code of STATE, O_DESYNC and O_FAILED its two terminal codes. R38, with the
codes of R22 written out. -/
def Obligations.StatusOutputsShowTheStateCode : Prop :=
  (∀ s : State, oState s = (match s.state with
    | .awaitHdr => 0 | .readLen => 1 | .readBody => 2 | .desync => 3 | .failed => 4
    | .rsv5 => 5 | .rsv6 => 6 | .rsv7 => 7)) ∧
  (∀ s : State, (oDesync s = true ↔ oState s = 3) ∧ (oFailed s = true ↔ oState s = 4))

/-- While sink_hold is 1 no byte is accepted and only the pulses of the outputs change. R65. -/
def Obligations.SinkHoldAcceptsNothingAndHoldsTheOutputs : Prop :=
  (∀ s : State, s.now.sinkHold = true → inReady s = false ∧ accepted s = none) ∧
  (∀ s t : State, s.now.sinkHold = true → s.now.rst = false → step s = .next t →
    t.oDone = false ∧ t.oBvalid = false ∧ t.oPrimary = s.oPrimary ∧ t.oOk = s.oOk ∧
    t.oShort = s.oShort ∧ t.oCalc = s.oCalc ∧ t.oExp = s.oExp ∧ t.oLen = s.oLen ∧
    t.oByte = s.oByte ∧ t.oRole = s.oRole ∧ t.oBidx = s.oBidx) ∧
  (∀ s : State, s.now.sinkHold = true → s.now.rst = false → s.now.xportFail = false →
    s.state.live = true → ¬ (s.state = .readBody ∧ s.cnt = 0) →
    step s = .next { s.tick with oDone := false, oBvalid := false })

/-- The first byte after a frame end or a reset is taken as a header, at once. R58, R141, R182,
R210. -/
def Obligations.NextByteAfterAFrameIsAHeader : Prop :=
  ∀ s t : State, step s = .next t → frameEnds s = true ∨ s.now.rst = true →
    t.state = .awaitHdr ∧
    (t.now.rst = false → t.now.xportFail = false → t.now.sinkHold = false → inReady t = true) ∧
    (∀ (b : Byte) (i : Instr), accepted t = some b → decode (osv t) = .ok i →
      i = .hdrPrimary b ∨ i = .hdrTrace b ∨ i = .hdrBad b)

/-- Two states that agree on the current frame step alike, whatever else they hold. R144, as two
runs that differ in everything the previous frame left behind. -/
def Obligations.FrameOutcomeDependsOnlyOnItsOwnBytes : Prop :=
  ∀ s u s' : State, SameFrame s u → step s = .next s' → ∃ u', step u = .next u' ∧ SameFrame s' u' ∧
    s'.oDone = u'.oDone ∧ s'.oBvalid = u'.oBvalid ∧
    (s'.oBvalid = true → s'.oByte = u'.oByte ∧ s'.oRole = u'.oRole ∧ s'.oBidx = u'.oBidx) ∧
    (s'.oDone = true → s'.oPrimary = u'.oPrimary ∧ s'.oOk = u'.oOk ∧ s'.oShort = u'.oShort ∧
      s'.oCalc = u'.oCalc ∧ s'.oExp = u'.oExp ∧ s'.oLen = u'.oLen)

/-- A frame of length L takes L bytes after its header and is then reported, through any idle
cycles. R142, with R122's idle cycles and R70's frame; it says of every frame at once what R107
and R130 say of its report. `delivered` are the bytes a run of cycles offers and the consumer does
not hold. -/
def Obligations.FrameConsumesExactlyItsLength : Prop :=
  ∀ (s : State) (xs later : List Inputs) (x : Inputs) (h l : Byte) (body : List Byte),
    s.state = .awaitHdr → s.inputs = xs ++ x :: later → undisturbed (xs ++ [x]) →
    delivered (xs ++ [x]) = h :: l :: body → x.inValid = true → x.sinkHold = false →
    h = 0x72 ∨ h = 0x1C → body.length = l.toNat - 1 →
    ∃ t, run (xs.length + 1) s = .next t ∧ t.inputs = later ∧
      t.state = .awaitHdr ∧ t.oDone = true ∧ t.oLen = l ∧ t.oPrimary = (h == 0x72) ∧
      (2 ≤ l.toNat → t.oShort = false ∧ t.oBidx = l ∧
        t.oCalc = checksum (h :: l :: body).dropLast ∧ (h :: l :: body).getLast? = some t.oExp ∧
        t.oOk = verify (h :: l :: body).dropLast t.oExp) ∧
      (l.toNat < 2 → t.oShort = true ∧ t.oOk = false ∧ t.oBidx = 1 ∧
        t.oCalc = checksum [h, l] ∧ t.oExp = 0) ∧
      (∀ (k : Nat) (u : State), 0 < k → k ≤ xs.length → run k s = .next u →
        u.oDone = false)

/-- The script's FRAME is a normal frame whose checksum is correct. R90: "It is a normal frame
whose checksum is correct." A statement about every such frame, not about one script. -/
def Obligations.ScriptedFrameEndsWithAMatch : Prop :=
  ∀ (s : State) (h : Byte) (payload : List Byte) (later : List Inputs), s.state = .awaitHdr →
    h = 0x72 ∨ h = 0x1C → (ScriptItem.frame h payload).wellFormed = true →
    s.inputs = scriptInputs [.frame h payload] ++ later →
    ∃ t, run (payload.length + 3) s = .next t ∧ t.inputs = later ∧
      t.state = .awaitHdr ∧ t.oDone = true ∧ t.oOk = true ∧ t.oShort = false ∧
      t.oLen.toNat = payload.length + 2 ∧ payloadCount t = payload.length

/-- A byte offered while rst is 1 is accepted after it, if the transport keeps its duty. R202.
`KeepsOffer` is the transport's duty of R54. -/
def Obligations.ByteOfferedDuringResetIsNotLost : Prop :=
  (∀ s : State, s.now.rst = true → inReady s = false ∧ accepted s = none) ∧
  (∀ s t : State, s.now.rst = true → s.now.inValid = true → step s = .next t → KeepsOffer s t →
    t.now.rst = false → inReady t = true → accepted t = some s.now.inByte)
end

