-- ==== Sys2Proof/Laws/Checksum.lean ====
section
/-! SUPPORT. Lemmas about the checksum's arithmetic: how a fold of `add8` splits. -/

namespace Sys2Proof.Machine

theorem add8_eq (a b : Byte) : add8 a b = a + b := rfl

/-- A fold of `add8` from any start is the start plus `sum8`. -/
theorem foldl_add8 (a : Byte) (bytes : List Byte) : bytes.foldl add8 a = a + sum8 bytes := by
  induction bytes generalizing a with
  | nil => simp [sum8]
  | cons b bs ih =>
    simp only [sum8, List.foldl_cons, add8_eq] at *
    rw [ih, ih (0 + b)]
    simp [BitVec.add_assoc]

@[simp] theorem sum8_nil : sum8 [] = 0 := rfl

@[simp] theorem sum8_cons (b : Byte) (bytes : List Byte) : sum8 (b :: bytes) = b + sum8 bytes := by
  rw [sum8, List.foldl_cons, foldl_add8, add8_eq]
  simp

theorem sum8_append (xs ys : List Byte) : sum8 (xs ++ ys) = sum8 xs + sum8 ys := by
  induction xs with
  | nil => simp
  | cons b bs ih => simp [ih, BitVec.add_assoc]

end Sys2Proof.Machine
end

