-- ==== Sys2Proof/Laws/Decode.lean ====
section
/-! SUPPORT. The decoder on a selector vector given by its fields: which row's `(OSV & mask) == match`
holds, and which operation is therefore selected. -/

namespace Sys2Proof

/-! ## The fields of a packed vector -/

/-- A packed vector's bits, from those of its fields. -/
theorem getElem_packOsv (z rst fail v : Bool) (s : BitVec 3) (last : Bool) (b : Byte) (i : Nat)
    (hi : i < 16) : (packOsv z rst fail v s last b)[i] =
      if i < 8 then b.getLsbD i else if i = 8 then last else if i < 12 then s.getLsbD (i - 9)
      else if i = 12 then v else if i = 13 then fail else if i = 14 then rst else z := by
  have h : packOsv z rst fail v s last b = BitVec.setWidth 16 (BitVec.ofBool z ++ BitVec.ofBool rst ++
      BitVec.ofBool fail ++ BitVec.ofBool v ++ s ++ BitVec.ofBool last ++ b) :=
    (BitVec.setWidth_eq _).symm
  rw [h, BitVec.getElem_setWidth]
  simp only [BitVec.getLsbD_append]
  rcases i with _|_|_|_|_|_|_|_|_|_|_|_|_|_|_|_|i <;> first | omega | simp

@[simp] theorem osvByte_packOsv (z rst fail v : Bool) (s : BitVec 3) (last : Bool) (b : Byte) :
    osvByte (packOsv z rst fail v s last b) = b := by
  ext i hi
  have h16 : i < 16 := by omega
  have := getElem_packOsv z rst fail v s last b i h16
  simp_all [osvByte, BitVec.getLsbD_eq_getElem]

/-- Every vector is the packing of its own fields. -/
theorem packOsv_fields (w : Osv) :
    packOsv (osvZ w) (osvRst w) (osvFail w) (osvV w) (osvS w) (osvLast w) (osvByte w) = w := by
  ext i hi
  rw [getElem_packOsv]
  rcases i with _|_|_|_|_|_|_|_|_|_|_|_|_|_|_|_|i <;>
    first
      | omega
      | simp [osvZ, osvRst, osvFail, osvV, osvS, osvLast, osvByte]

/-! ## The rows of the table -/

/-- The selector vector above its `BYTE`. -/
def packHigh (z rst fail v : Bool) (s : BitVec 3) (last : Bool) : BitVec 8 :=
  BitVec.ofBool z ++ BitVec.ofBool rst ++ BitVec.ofBool fail ++ BitVec.ofBool v ++ s ++
    BitVec.ofBool last

theorem append_injective {x x' y y' : Byte} (h : (x ++ y : BitVec (8 + 8)) = x' ++ y') :
    x = x' ∧ y = y' := by
  have hb : ∀ i, (x ++ y : BitVec (8 + 8)).getLsbD i = (x' ++ y' : BitVec (8 + 8)).getLsbD i := by
    intro i; rw [h]
  simp only [BitVec.getLsbD_append] at hb
  constructor
  · ext i hi
    simpa [BitVec.getLsbD_eq_getElem hi] using hb (i + 8)
  · ext i hi
    simpa [hi] using hb i

/-- A row's test splits into one on the upper byte and one on `BYTE`. -/
theorem selects_split (z rst fail v : Bool) (s : BitVec 3) (last : Bool) (b mh ml ph pl : Byte)
    (f : Byte → Instr) :
    (OpRow.mk (mh ++ ml) (ph ++ pl) f).selects (packOsv z rst fail v s last b) =
      ((packHigh z rst fail v s last &&& mh) == ph && (b &&& ml) == pl) := by
  have h : packOsv z rst fail v s last b = packHigh z rst fail v s last ++ b := rfl
  rw [OpRow.selects, h, Bool.eq_iff_iff]
  generalize packHigh z rst fail v s last = hi
  simp only [beq_iff_eq, Bool.and_eq_true]
  constructor
  · intro e
    have e' : ((hi &&& mh) ++ (b &&& ml) : BitVec (8 + 8)) = ph ++ pl := by
      rw [← e]; exact BitVec.and_append.symm
    exact append_injective e'
  · rintro ⟨rfl, rfl⟩
    exact BitVec.and_append

theorem and_zero_eq (b : Byte) : ((b &&& 0x00) == 0x00) = true := by simp

theorem and_ones_eq (b k : Byte) : ((b &&& 0xFF) == k) = decide (b = k) := by
  rw [show (0xFF : Byte) = BitVec.allOnes 8 from rfl, BitVec.and_allOnes]
  rfl

/-! Each row's test on the upper byte, read off R84's "selects when" column. -/

theorem high_reset : ∀ z rst fail v s last,
    ((packHigh z rst fail v s last &&& 0x40) == 0x40) = rst := by decide
theorem high_state (k : BitVec 3) : ∀ z rst fail v s last,
    ((packHigh z rst fail v s last &&& 0x4E) == packHigh false false false false k false) =
      (!rst && decide (s = k)) := by revert k; decide
theorem high_upper : ∀ z rst fail v s last,
    ((packHigh z rst fail v s last &&& 0x48) == 0x08) = (!rst && decide (4 ≤ s.toNat)) := by decide
theorem high_cnt0 : ∀ z rst fail v s last,
    ((packHigh z rst fail v s last &&& 0xCE) == 0x84) = (z && !rst && decide (s = 2)) := by decide
theorem high_fail : ∀ z rst fail v s last,
    ((packHigh z rst fail v s last &&& 0x60) == 0x20) = (!rst && fail) := by decide
theorem high_idle : ∀ z rst fail v s last,
    ((packHigh z rst fail v s last &&& 0x70) == 0x00) = (!rst && !fail && !v) := by decide
theorem high_hdr : ∀ z rst fail v s last,
    ((packHigh z rst fail v s last &&& 0x7E) == 0x10) = (!rst && !fail && v && decide (s = 0)) := by decide
theorem high_len : ∀ z rst fail v s last,
    ((packHigh z rst fail v s last &&& 0x7E) == 0x12) = (!rst && !fail && v && decide (s = 1)) := by decide
theorem high_chk : ∀ z rst fail v s last,
    ((packHigh z rst fail v s last &&& 0xFF) == 0x15) =
      (!z && !rst && !fail && v && decide (s = 2) && last) := by decide
theorem high_data : ∀ z rst fail v s last,
    ((packHigh z rst fail v s last &&& 0xFF) == 0x14) =
      (!z && !rst && !fail && v && decide (s = 2) && !last) := by decide

/-! ## The rows on a packed vector -/

/-- A row's test on a packed vector, from its tests on the two bytes. -/
theorem selects_packOsv {z rst fail v : Bool} {s : BitVec 3} {last : Bool} {b mh ml ph pl : Byte}
    {mask pattern : Osv} {f : Byte → Instr} {high low : Bool} (hm : mask = mh ++ ml)
    (hp : pattern = ph ++ pl) (hh : ((packHigh z rst fail v s last &&& mh) == ph) = high)
    (hl : ((b &&& ml) == pl) = low) :
    (OpRow.mk mask pattern f).selects (packOsv z rst fail v s last b) = (high && low) := by
  subst hm hp
  rw [selects_split, hh, hl]

section Rows

variable (z rst fail v : Bool) (s : BitVec 3) (last : Bool) (b : Byte) (f : Byte → Instr)

theorem selects_reset : (OpRow.mk 0x4000 0x4000 f).selects (packOsv z rst fail v s last b) =
    rst :=
  (selects_packOsv (mh := 0x40) (ml := 0x00) (ph := 0x40) (pl := 0x00) rfl rfl
      (high_reset z rst fail v s last) (and_zero_eq b)).trans (Bool.and_true _)

theorem selects_haltDesync : (OpRow.mk 0x4E00 0x0600 f).selects (packOsv z rst fail v s last b) =
    (!rst && decide (s = 3)) :=
  (selects_packOsv (mh := 0x4E) (ml := 0x00) (ph := 0x06) (pl := 0x00) rfl rfl
      (high_state 3 z rst fail v s last) (and_zero_eq b)).trans (Bool.and_true _)

theorem selects_haltFailed : (OpRow.mk 0x4E00 0x0800 f).selects (packOsv z rst fail v s last b) =
    (!rst && decide (s = 4)) :=
  (selects_packOsv (mh := 0x4E) (ml := 0x00) (ph := 0x08) (pl := 0x00) rfl rfl
      (high_state 4 z rst fail v s last) (and_zero_eq b)).trans (Bool.and_true _)

theorem selects_illegalState : (OpRow.mk 0x4800 0x0800 f).selects (packOsv z rst fail v s last b) =
    (!rst && decide (4 ≤ s.toNat)) :=
  (selects_packOsv (mh := 0x48) (ml := 0x00) (ph := 0x08) (pl := 0x00) rfl rfl
      (high_upper z rst fail v s last) (and_zero_eq b)).trans (Bool.and_true _)

theorem selects_illegalCnt0 : (OpRow.mk 0xCE00 0x8400 f).selects (packOsv z rst fail v s last b) =
    (z && !rst && decide (s = 2)) :=
  (selects_packOsv (mh := 0xCE) (ml := 0x00) (ph := 0x84) (pl := 0x00) rfl rfl
      (high_cnt0 z rst fail v s last) (and_zero_eq b)).trans (Bool.and_true _)

theorem selects_xportFail : (OpRow.mk 0x6000 0x2000 f).selects (packOsv z rst fail v s last b) =
    (!rst && fail) :=
  (selects_packOsv (mh := 0x60) (ml := 0x00) (ph := 0x20) (pl := 0x00) rfl rfl
      (high_fail z rst fail v s last) (and_zero_eq b)).trans (Bool.and_true _)

theorem selects_idle : (OpRow.mk 0x7000 0x0000 f).selects (packOsv z rst fail v s last b) =
    (!rst && !fail && !v) :=
  (selects_packOsv (mh := 0x70) (ml := 0x00) (ph := 0x00) (pl := 0x00) rfl rfl
      (high_idle z rst fail v s last) (and_zero_eq b)).trans (Bool.and_true _)

theorem selects_hdrPrimary : (OpRow.mk 0x7EFF 0x1072 f).selects (packOsv z rst fail v s last b) =
    (!rst && !fail && v && decide (s = 0) && decide (b = 0x72)) :=
  selects_packOsv (mh := 0x7E) (ml := 0xFF) (ph := 0x10) (pl := 0x72) rfl rfl
      (high_hdr z rst fail v s last) (and_ones_eq b _)

theorem selects_hdrTrace : (OpRow.mk 0x7EFF 0x101C f).selects (packOsv z rst fail v s last b) =
    (!rst && !fail && v && decide (s = 0) && decide (b = 0x1C)) :=
  selects_packOsv (mh := 0x7E) (ml := 0xFF) (ph := 0x10) (pl := 0x1C) rfl rfl
      (high_hdr z rst fail v s last) (and_ones_eq b _)

theorem selects_hdrBad : (OpRow.mk 0x7E00 0x1000 f).selects (packOsv z rst fail v s last b) =
    (!rst && !fail && v && decide (s = 0)) :=
  (selects_packOsv (mh := 0x7E) (ml := 0x00) (ph := 0x10) (pl := 0x00) rfl rfl
      (high_hdr z rst fail v s last) (and_zero_eq b)).trans (Bool.and_true _)

theorem selects_lenZero : (OpRow.mk 0x7EFF 0x1200 f).selects (packOsv z rst fail v s last b) =
    (!rst && !fail && v && decide (s = 1) && decide (b = 0x00)) :=
  selects_packOsv (mh := 0x7E) (ml := 0xFF) (ph := 0x12) (pl := 0x00) rfl rfl
      (high_len z rst fail v s last) (and_ones_eq b _)

theorem selects_lenOne : (OpRow.mk 0x7EFF 0x1201 f).selects (packOsv z rst fail v s last b) =
    (!rst && !fail && v && decide (s = 1) && decide (b = 0x01)) :=
  selects_packOsv (mh := 0x7E) (ml := 0xFF) (ph := 0x12) (pl := 0x01) rfl rfl
      (high_len z rst fail v s last) (and_ones_eq b _)

theorem selects_lenBody : (OpRow.mk 0x7E00 0x1200 f).selects (packOsv z rst fail v s last b) =
    (!rst && !fail && v && decide (s = 1)) :=
  (selects_packOsv (mh := 0x7E) (ml := 0x00) (ph := 0x12) (pl := 0x00) rfl rfl
      (high_len z rst fail v s last) (and_zero_eq b)).trans (Bool.and_true _)

theorem selects_bodyChk : (OpRow.mk 0xFF00 0x1500 f).selects (packOsv z rst fail v s last b) =
    (!z && !rst && !fail && v && decide (s = 2) && last) :=
  (selects_packOsv (mh := 0xFF) (ml := 0x00) (ph := 0x15) (pl := 0x00) rfl rfl
      (high_chk z rst fail v s last) (and_zero_eq b)).trans (Bool.and_true _)

theorem selects_bodyData : (OpRow.mk 0xFF00 0x1400 f).selects (packOsv z rst fail v s last b) =
    (!z && !rst && !fail && v && decide (s = 2) && !last) :=
  (selects_packOsv (mh := 0xFF) (ml := 0x00) (ph := 0x14) (pl := 0x00) rfl rfl
      (high_data z rst fail v s last) (and_zero_eq b)).trans (Bool.and_true _)

end Rows

/-! ## The decoder -/

/-- The table in words: the operation selected by a vector with these fields, R84's "selects when"
column read from the first row down. -/
theorem decode_packOsv (z rst fail v : Bool) (s : BitVec 3) (last : Bool) (b : Byte) :
    decode (packOsv z rst fail v s last b) = .ok (
      if rst then .reset
      else if s = 3 then .haltDesync
      else if s = 4 then .haltFailed
      else if 4 ≤ s.toNat then .illegalState
      else if s = 2 ∧ z then .illegalCnt0
      else if fail then .xportFail
      else if v = false then .idle
      else if s = 0 then
        if b = 0x72 then .hdrPrimary b else if b = 0x1C then .hdrTrace b else .hdrBad b
      else if s = 1 then
        if b = 0x00 then .lenZero b else if b = 0x01 then .lenOne b else .lenBody b
      else if last then .bodyChk b else .bodyData b) := by
  simp only [decode, opTable, List.find?_cons, osvByte_packOsv, selects_reset, selects_haltDesync, selects_haltFailed, selects_illegalState, selects_illegalCnt0, selects_xportFail, selects_idle, selects_hdrPrimary, selects_hdrTrace, selects_hdrBad, selects_lenZero, selects_lenOne, selects_lenBody, selects_bodyChk, selects_bodyData]
  cases rst
  swap
  · simp
  by_cases hs3 : s = 3#3
  · simp [hs3]
  by_cases hs4 : s = 4#3
  · simp [hs4]
  by_cases hs : 4 ≤ s.toNat
  · simp [hs3, hs4, hs]
  have h012 : s = 0 ∨ s = 1 ∨ s = 2 := by
    revert s; decide
  rcases h012 with rfl | rfl | rfl <;> cases z <;> cases fail <;> cases v <;> cases last <;> simp <;>
    split_ifs <;> simp_all

end Sys2Proof
end

