-- ==== Sys2Proof/Laws/PerInstr.lean ====
section
/-! SUPPORT. One law per operation, as syntax: the vector that `encode` writes fits the operation's own
row of the table, and carries its operand. -/

namespace Sys2Proof.Laws

/-- A well-formed operation's encoding fits its own row (`(OSV & mask) == match`, 30_encoding.md R83),
that row stands for it, and its operand, where it has one, stands in `BYTE` (R80, R82). That no
EARLIER row fits is not said here. -/
def OwnRow.Statement (i : Instr) : Prop :=
  i.wellFormed = true →
    (∃ r, opTable[i.row - 1]? = some r ∧ r.selects (encode i) = true ∧
      r.operation (osvByte (encode i)) = i) ∧
    ∀ b, i.operand = some b → osvByte (encode i) = b

theorem OwnRow.reset : OwnRow.Statement .reset := fun _ =>
  ⟨⟨_, rfl, selects_reset .., rfl⟩, fun _ h => by cases h⟩

theorem OwnRow.haltDesync : OwnRow.Statement .haltDesync := fun _ =>
  ⟨⟨_, rfl, selects_haltDesync .., rfl⟩, fun _ h => by cases h⟩

theorem OwnRow.haltFailed : OwnRow.Statement .haltFailed := fun _ =>
  ⟨⟨_, rfl, selects_haltFailed .., rfl⟩, fun _ h => by cases h⟩

theorem OwnRow.illegalState : OwnRow.Statement .illegalState := fun _ =>
  ⟨⟨_, rfl, selects_illegalState .., rfl⟩, fun _ h => by cases h⟩

theorem OwnRow.illegalCnt0 : OwnRow.Statement .illegalCnt0 := fun _ =>
  ⟨⟨_, rfl, selects_illegalCnt0 .., rfl⟩, fun _ h => by cases h⟩

theorem OwnRow.xportFail : OwnRow.Statement .xportFail := fun _ =>
  ⟨⟨_, rfl, selects_xportFail .., rfl⟩, fun _ h => by cases h⟩

theorem OwnRow.idle : OwnRow.Statement .idle := fun _ =>
  ⟨⟨_, rfl, selects_idle .., rfl⟩, fun _ h => by cases h⟩

theorem OwnRow.hdrPrimary (b : Byte) : OwnRow.Statement (.hdrPrimary b) := fun h => by
  have hb : b = 0x72 := eq_of_beq h
  refine ⟨⟨_, rfl, (selects_hdrPrimary ..).trans (by simp [hb]), ?_⟩, ?_⟩ <;>
    simp [encode, Instr.operand]

theorem OwnRow.hdrTrace (b : Byte) : OwnRow.Statement (.hdrTrace b) := fun h => by
  have hb : b = 0x1C := eq_of_beq h
  refine ⟨⟨_, rfl, (selects_hdrTrace ..).trans (by simp [hb]), ?_⟩, ?_⟩ <;>
    simp [encode, Instr.operand]

theorem OwnRow.hdrBad (b : Byte) : OwnRow.Statement (.hdrBad b) := fun _ => by
  refine ⟨⟨_, rfl, selects_hdrBad .., ?_⟩, ?_⟩ <;> simp [encode, Instr.operand]

theorem OwnRow.lenZero (l : Byte) : OwnRow.Statement (.lenZero l) := fun h => by
  have hl : l = 0x00 := eq_of_beq h
  refine ⟨⟨_, rfl, (selects_lenZero ..).trans (by simp [hl]), ?_⟩, ?_⟩ <;>
    simp [encode, Instr.operand]

theorem OwnRow.lenOne (l : Byte) : OwnRow.Statement (.lenOne l) := fun h => by
  have hl : l = 0x01 := eq_of_beq h
  refine ⟨⟨_, rfl, (selects_lenOne ..).trans (by simp [hl]), ?_⟩, ?_⟩ <;>
    simp [encode, Instr.operand]

theorem OwnRow.lenBody (l : Byte) : OwnRow.Statement (.lenBody l) := fun _ => by
  refine ⟨⟨_, rfl, selects_lenBody .., ?_⟩, ?_⟩ <;> simp [encode, Instr.operand]

theorem OwnRow.bodyChk (c : Byte) : OwnRow.Statement (.bodyChk c) := fun _ => by
  refine ⟨⟨_, rfl, selects_bodyChk .., ?_⟩, ?_⟩ <;> simp [encode, Instr.operand]

theorem OwnRow.bodyData (b : Byte) : OwnRow.Statement (.bodyData b) := fun _ => by
  refine ⟨⟨_, rfl, selects_bodyData .., ?_⟩, ?_⟩ <;> simp [encode, Instr.operand]

end Sys2Proof.Laws
end

