-- ==== Sys2Proof/Laws/State.lean ====
section
/-! SUPPORT. What each shared operation of Machine/Ops.lean and Machine/Operands.lean makes of each field of `State`,
so that no later proof unfolds a record update. -/

namespace Sys2Proof.Machine

/-! ## `tick` -/

@[simp] theorem tick_state (s : State) :
    s.tick.state = s.state := rfl
@[simp] theorem tick_var (s : State) :
    s.tick.var = s.var := rfl
@[simp] theorem tick_len (s : State) :
    s.tick.len = s.len := rfl
@[simp] theorem tick_cnt (s : State) :
    s.tick.cnt = s.cnt := rfl
@[simp] theorem tick_acc (s : State) :
    s.tick.acc = s.acc := rfl
@[simp] theorem tick_oDone (s : State) :
    s.tick.oDone = s.oDone := rfl
@[simp] theorem tick_oPrimary (s : State) :
    s.tick.oPrimary = s.oPrimary := rfl
@[simp] theorem tick_oOk (s : State) :
    s.tick.oOk = s.oOk := rfl
@[simp] theorem tick_oShort (s : State) :
    s.tick.oShort = s.oShort := rfl
@[simp] theorem tick_oCalc (s : State) :
    s.tick.oCalc = s.oCalc := rfl
@[simp] theorem tick_oExp (s : State) :
    s.tick.oExp = s.oExp := rfl
@[simp] theorem tick_oLen (s : State) :
    s.tick.oLen = s.oLen := rfl
@[simp] theorem tick_oBvalid (s : State) :
    s.tick.oBvalid = s.oBvalid := rfl
@[simp] theorem tick_oByte (s : State) :
    s.tick.oByte = s.oByte := rfl
@[simp] theorem tick_oRole (s : State) :
    s.tick.oRole = s.oRole := rfl
@[simp] theorem tick_oBidx (s : State) :
    s.tick.oBidx = s.oBidx := rfl
@[simp] theorem tick_inputs (s : State) :
    s.tick.inputs = s.inputs.tail := rfl
@[simp] theorem tick_cycle (s : State) :
    s.tick.cycle = s.cycle + 1 := rfl

/-! ## `pulseDefaults` -/

@[simp] theorem pulseDefaults_state (s : State) :
    s.pulseDefaults.state = s.state := rfl
@[simp] theorem pulseDefaults_var (s : State) :
    s.pulseDefaults.var = s.var := rfl
@[simp] theorem pulseDefaults_len (s : State) :
    s.pulseDefaults.len = s.len := rfl
@[simp] theorem pulseDefaults_cnt (s : State) :
    s.pulseDefaults.cnt = s.cnt := rfl
@[simp] theorem pulseDefaults_acc (s : State) :
    s.pulseDefaults.acc = s.acc := rfl
@[simp] theorem pulseDefaults_oDone (s : State) :
    s.pulseDefaults.oDone = false := rfl
@[simp] theorem pulseDefaults_oPrimary (s : State) :
    s.pulseDefaults.oPrimary = s.oPrimary := rfl
@[simp] theorem pulseDefaults_oOk (s : State) :
    s.pulseDefaults.oOk = s.oOk := rfl
@[simp] theorem pulseDefaults_oShort (s : State) :
    s.pulseDefaults.oShort = s.oShort := rfl
@[simp] theorem pulseDefaults_oCalc (s : State) :
    s.pulseDefaults.oCalc = s.oCalc := rfl
@[simp] theorem pulseDefaults_oExp (s : State) :
    s.pulseDefaults.oExp = s.oExp := rfl
@[simp] theorem pulseDefaults_oLen (s : State) :
    s.pulseDefaults.oLen = s.oLen := rfl
@[simp] theorem pulseDefaults_oBvalid (s : State) :
    s.pulseDefaults.oBvalid = false := rfl
@[simp] theorem pulseDefaults_oByte (s : State) :
    s.pulseDefaults.oByte = s.oByte := rfl
@[simp] theorem pulseDefaults_oRole (s : State) :
    s.pulseDefaults.oRole = s.oRole := rfl
@[simp] theorem pulseDefaults_oBidx (s : State) :
    s.pulseDefaults.oBidx = s.oBidx := rfl
@[simp] theorem pulseDefaults_inputs (s : State) :
    s.pulseDefaults.inputs = s.inputs := rfl
@[simp] theorem pulseDefaults_cycle (s : State) :
    s.pulseDefaults.cycle = s.cycle := rfl

/-! ## `emit` -/

@[simp] theorem emit_state (s : State) (role : Role) (byte idx : Byte) :
    (s.emit role byte idx).state = s.state := rfl
@[simp] theorem emit_var (s : State) (role : Role) (byte idx : Byte) :
    (s.emit role byte idx).var = s.var := rfl
@[simp] theorem emit_len (s : State) (role : Role) (byte idx : Byte) :
    (s.emit role byte idx).len = s.len := rfl
@[simp] theorem emit_cnt (s : State) (role : Role) (byte idx : Byte) :
    (s.emit role byte idx).cnt = s.cnt := rfl
@[simp] theorem emit_acc (s : State) (role : Role) (byte idx : Byte) :
    (s.emit role byte idx).acc = s.acc := rfl
@[simp] theorem emit_oDone (s : State) (role : Role) (byte idx : Byte) :
    (s.emit role byte idx).oDone = s.oDone := rfl
@[simp] theorem emit_oPrimary (s : State) (role : Role) (byte idx : Byte) :
    (s.emit role byte idx).oPrimary = s.oPrimary := rfl
@[simp] theorem emit_oOk (s : State) (role : Role) (byte idx : Byte) :
    (s.emit role byte idx).oOk = s.oOk := rfl
@[simp] theorem emit_oShort (s : State) (role : Role) (byte idx : Byte) :
    (s.emit role byte idx).oShort = s.oShort := rfl
@[simp] theorem emit_oCalc (s : State) (role : Role) (byte idx : Byte) :
    (s.emit role byte idx).oCalc = s.oCalc := rfl
@[simp] theorem emit_oExp (s : State) (role : Role) (byte idx : Byte) :
    (s.emit role byte idx).oExp = s.oExp := rfl
@[simp] theorem emit_oLen (s : State) (role : Role) (byte idx : Byte) :
    (s.emit role byte idx).oLen = s.oLen := rfl
@[simp] theorem emit_oBvalid (s : State) (role : Role) (byte idx : Byte) :
    (s.emit role byte idx).oBvalid = true := rfl
@[simp] theorem emit_oByte (s : State) (role : Role) (byte idx : Byte) :
    (s.emit role byte idx).oByte = byte := rfl
@[simp] theorem emit_oRole (s : State) (role : Role) (byte idx : Byte) :
    (s.emit role byte idx).oRole = role := rfl
@[simp] theorem emit_oBidx (s : State) (role : Role) (byte idx : Byte) :
    (s.emit role byte idx).oBidx = idx := rfl
@[simp] theorem emit_inputs (s : State) (role : Role) (byte idx : Byte) :
    (s.emit role byte idx).inputs = s.inputs := rfl
@[simp] theorem emit_cycle (s : State) (role : Role) (byte idx : Byte) :
    (s.emit role byte idx).cycle = s.cycle := rfl

/-! ## `report` -/

@[simp] theorem report_state (s : State) (ok short : Bool) (computed expected len : Byte) :
    (s.report ok short computed expected len).state = .awaitHdr := rfl
@[simp] theorem report_var (s : State) (ok short : Bool) (computed expected len : Byte) :
    (s.report ok short computed expected len).var = s.var := rfl
@[simp] theorem report_len (s : State) (ok short : Bool) (computed expected len : Byte) :
    (s.report ok short computed expected len).len = s.len := rfl
@[simp] theorem report_cnt (s : State) (ok short : Bool) (computed expected len : Byte) :
    (s.report ok short computed expected len).cnt = 0x00 := rfl
@[simp] theorem report_acc (s : State) (ok short : Bool) (computed expected len : Byte) :
    (s.report ok short computed expected len).acc = s.acc := rfl
@[simp] theorem report_oDone (s : State) (ok short : Bool) (computed expected len : Byte) :
    (s.report ok short computed expected len).oDone = true := rfl
@[simp] theorem report_oPrimary (s : State) (ok short : Bool) (computed expected len : Byte) :
    (s.report ok short computed expected len).oPrimary = s.var := rfl
@[simp] theorem report_oOk (s : State) (ok short : Bool) (computed expected len : Byte) :
    (s.report ok short computed expected len).oOk = ok := rfl
@[simp] theorem report_oShort (s : State) (ok short : Bool) (computed expected len : Byte) :
    (s.report ok short computed expected len).oShort = short := rfl
@[simp] theorem report_oCalc (s : State) (ok short : Bool) (computed expected len : Byte) :
    (s.report ok short computed expected len).oCalc = computed := rfl
@[simp] theorem report_oExp (s : State) (ok short : Bool) (computed expected len : Byte) :
    (s.report ok short computed expected len).oExp = expected := rfl
@[simp] theorem report_oLen (s : State) (ok short : Bool) (computed expected len : Byte) :
    (s.report ok short computed expected len).oLen = len := rfl
@[simp] theorem report_oBvalid (s : State) (ok short : Bool) (computed expected len : Byte) :
    (s.report ok short computed expected len).oBvalid = s.oBvalid := rfl
@[simp] theorem report_oByte (s : State) (ok short : Bool) (computed expected len : Byte) :
    (s.report ok short computed expected len).oByte = s.oByte := rfl
@[simp] theorem report_oRole (s : State) (ok short : Bool) (computed expected len : Byte) :
    (s.report ok short computed expected len).oRole = s.oRole := rfl
@[simp] theorem report_oBidx (s : State) (ok short : Bool) (computed expected len : Byte) :
    (s.report ok short computed expected len).oBidx = s.oBidx := rfl
@[simp] theorem report_inputs (s : State) (ok short : Bool) (computed expected len : Byte) :
    (s.report ok short computed expected len).inputs = s.inputs := rfl
@[simp] theorem report_cycle (s : State) (ok short : Bool) (computed expected len : Byte) :
    (s.report ok short computed expected len).cycle = s.cycle := rfl

/-! ## `enterFatal` -/

@[simp] theorem enterFatal_state (s : State) (e : FatalError) :
    (s.enterFatal e).state = e.terminal := rfl
@[simp] theorem enterFatal_var (s : State) (e : FatalError) :
    (s.enterFatal e).var = s.var := rfl
@[simp] theorem enterFatal_len (s : State) (e : FatalError) :
    (s.enterFatal e).len = s.len := rfl
@[simp] theorem enterFatal_cnt (s : State) (e : FatalError) :
    (s.enterFatal e).cnt = s.cnt := rfl
@[simp] theorem enterFatal_acc (s : State) (e : FatalError) :
    (s.enterFatal e).acc = s.acc := rfl
@[simp] theorem enterFatal_oDone (s : State) (e : FatalError) :
    (s.enterFatal e).oDone = s.oDone := rfl
@[simp] theorem enterFatal_oPrimary (s : State) (e : FatalError) :
    (s.enterFatal e).oPrimary = s.oPrimary := rfl
@[simp] theorem enterFatal_oOk (s : State) (e : FatalError) :
    (s.enterFatal e).oOk = s.oOk := rfl
@[simp] theorem enterFatal_oShort (s : State) (e : FatalError) :
    (s.enterFatal e).oShort = s.oShort := rfl
@[simp] theorem enterFatal_oCalc (s : State) (e : FatalError) :
    (s.enterFatal e).oCalc = s.oCalc := rfl
@[simp] theorem enterFatal_oExp (s : State) (e : FatalError) :
    (s.enterFatal e).oExp = s.oExp := rfl
@[simp] theorem enterFatal_oLen (s : State) (e : FatalError) :
    (s.enterFatal e).oLen = s.oLen := rfl
@[simp] theorem enterFatal_oBvalid (s : State) (e : FatalError) :
    (s.enterFatal e).oBvalid = s.oBvalid := rfl
@[simp] theorem enterFatal_oByte (s : State) (e : FatalError) :
    (s.enterFatal e).oByte = s.oByte := rfl
@[simp] theorem enterFatal_oRole (s : State) (e : FatalError) :
    (s.enterFatal e).oRole = s.oRole := rfl
@[simp] theorem enterFatal_oBidx (s : State) (e : FatalError) :
    (s.enterFatal e).oBidx = s.oBidx := rfl
@[simp] theorem enterFatal_inputs (s : State) (e : FatalError) :
    (s.enterFatal e).inputs = s.inputs := rfl
@[simp] theorem enterFatal_cycle (s : State) (e : FatalError) :
    (s.enterFatal e).cycle = s.cycle := rfl

/-! ## `resetRegisters` -/

@[simp] theorem resetRegisters_state (s : State) :
    s.resetRegisters.state = .awaitHdr := rfl
@[simp] theorem resetRegisters_var (s : State) :
    s.resetRegisters.var = false := rfl
@[simp] theorem resetRegisters_len (s : State) :
    s.resetRegisters.len = 0x00 := rfl
@[simp] theorem resetRegisters_cnt (s : State) :
    s.resetRegisters.cnt = 0x00 := rfl
@[simp] theorem resetRegisters_acc (s : State) :
    s.resetRegisters.acc = 0x00 := rfl
@[simp] theorem resetRegisters_oDone (s : State) :
    s.resetRegisters.oDone = false := rfl
@[simp] theorem resetRegisters_oPrimary (s : State) :
    s.resetRegisters.oPrimary = false := rfl
@[simp] theorem resetRegisters_oOk (s : State) :
    s.resetRegisters.oOk = false := rfl
@[simp] theorem resetRegisters_oShort (s : State) :
    s.resetRegisters.oShort = false := rfl
@[simp] theorem resetRegisters_oCalc (s : State) :
    s.resetRegisters.oCalc = 0x00 := rfl
@[simp] theorem resetRegisters_oExp (s : State) :
    s.resetRegisters.oExp = 0x00 := rfl
@[simp] theorem resetRegisters_oLen (s : State) :
    s.resetRegisters.oLen = 0x00 := rfl
@[simp] theorem resetRegisters_oBvalid (s : State) :
    s.resetRegisters.oBvalid = false := rfl
@[simp] theorem resetRegisters_oByte (s : State) :
    s.resetRegisters.oByte = 0x00 := rfl
@[simp] theorem resetRegisters_oRole (s : State) :
    s.resetRegisters.oRole = .hdr := rfl
@[simp] theorem resetRegisters_oBidx (s : State) :
    s.resetRegisters.oBidx = 0x00 := rfl
@[simp] theorem resetRegisters_inputs (s : State) :
    s.resetRegisters.inputs = s.inputs := rfl
@[simp] theorem resetRegisters_cycle (s : State) :
    s.resetRegisters.cycle = s.cycle := rfl

/-! ## `placeSelector` -/

@[simp] theorem placeSelector_state (s : State) (w : Osv) :
    (s.placeSelector w).state = ProtocolState.ofCode (osvS w) := rfl
@[simp] theorem placeSelector_var (s : State) (w : Osv) :
    (s.placeSelector w).var = s.var := rfl
@[simp] theorem placeSelector_len (s : State) (w : Osv) :
    (s.placeSelector w).len = s.len := rfl
@[simp] theorem placeSelector_cnt (s : State) (w : Osv) :
    (s.placeSelector w).cnt = countForSelector (osvZ w) (osvLast w) s.cnt := rfl
@[simp] theorem placeSelector_acc (s : State) (w : Osv) :
    (s.placeSelector w).acc = s.acc := rfl
@[simp] theorem placeSelector_oDone (s : State) (w : Osv) :
    (s.placeSelector w).oDone = s.oDone := rfl
@[simp] theorem placeSelector_oPrimary (s : State) (w : Osv) :
    (s.placeSelector w).oPrimary = s.oPrimary := rfl
@[simp] theorem placeSelector_oOk (s : State) (w : Osv) :
    (s.placeSelector w).oOk = s.oOk := rfl
@[simp] theorem placeSelector_oShort (s : State) (w : Osv) :
    (s.placeSelector w).oShort = s.oShort := rfl
@[simp] theorem placeSelector_oCalc (s : State) (w : Osv) :
    (s.placeSelector w).oCalc = s.oCalc := rfl
@[simp] theorem placeSelector_oExp (s : State) (w : Osv) :
    (s.placeSelector w).oExp = s.oExp := rfl
@[simp] theorem placeSelector_oLen (s : State) (w : Osv) :
    (s.placeSelector w).oLen = s.oLen := rfl
@[simp] theorem placeSelector_oBvalid (s : State) (w : Osv) :
    (s.placeSelector w).oBvalid = s.oBvalid := rfl
@[simp] theorem placeSelector_oByte (s : State) (w : Osv) :
    (s.placeSelector w).oByte = s.oByte := rfl
@[simp] theorem placeSelector_oRole (s : State) (w : Osv) :
    (s.placeSelector w).oRole = s.oRole := rfl
@[simp] theorem placeSelector_oBidx (s : State) (w : Osv) :
    (s.placeSelector w).oBidx = s.oBidx := rfl
@[simp] theorem placeSelector_inputs (s : State) (w : Osv) :
    (s.placeSelector w).inputs = inputsForSelector w :: s.inputs.tail := rfl
@[simp] theorem placeSelector_cycle (s : State) (w : Osv) :
    (s.placeSelector w).cycle = s.cycle := rfl

end Sys2Proof.Machine
end

