-- ==== Sys2Proof/Laws/Step.lean ====
section
/-! SUPPORT. What a step does, once: the operation a cycle performs, from `STATE`, `CNT`, the control
ports and the accepted byte. Later proofs cite `step_eq` and the meanings' equations instead of
unfolding the decoder. -/

namespace Sys2Proof.Machine

/-! ## The meanings as next states -/

section Meanings

variable (s : State) (b : Byte)

@[simp] theorem exec_reset : exec .reset s = .next s.resetRegisters := rfl
@[simp] theorem exec_haltDesync : exec .haltDesync s = .next s.pulseDefaults := rfl
@[simp] theorem exec_haltFailed : exec .haltFailed s = .next s.pulseDefaults := rfl
@[simp] theorem exec_illegalState : exec .illegalState s = .fault .illegalState := rfl
@[simp] theorem exec_illegalCnt0 : exec .illegalCnt0 s = .fault .illegalCount := rfl
@[simp] theorem exec_xportFail :
    exec .xportFail s = .next (s.pulseDefaults.enterFatal .transportError) := rfl
@[simp] theorem exec_idle : exec .idle s = .next s.pulseDefaults := rfl
@[simp] theorem exec_hdrPrimary : exec (.hdrPrimary b) s =
    .next { s.pulseDefaults.emit .hdr b 0 with var := true, acc := b, state := .readLen } := rfl
@[simp] theorem exec_hdrTrace : exec (.hdrTrace b) s =
    .next { s.pulseDefaults.emit .hdr b 0 with var := false, acc := b, state := .readLen } := rfl
@[simp] theorem exec_hdrBad : exec (.hdrBad b) s =
    .next ((s.pulseDefaults.emit .hdr b 0).enterFatal .desynchronization) := rfl
@[simp] theorem exec_lenZero : exec (.lenZero b) s =
    .next ({ s.pulseDefaults.emit .len b 1 with len := b, acc := add8 s.acc b }.report
      false true s.acc 0x00 0x00) := rfl
@[simp] theorem exec_lenOne : exec (.lenOne b) s =
    .next ({ s.pulseDefaults.emit .len b 1 with len := b, acc := add8 s.acc b }.report
      false true (add8 s.acc b) 0x00 b) := rfl
@[simp] theorem exec_lenBody : exec (.lenBody b) s =
    .next { s.pulseDefaults.emit .len b 1 with
      len := b, cnt := b - 1, acc := add8 s.acc b, state := .readBody } := rfl
@[simp] theorem exec_bodyChk : exec (.bodyChk b) s =
    .next ((s.pulseDefaults.emit .chk b (bodyPosition s)).report
      (s.acc == b) false s.acc b s.len) := rfl
@[simp] theorem exec_bodyData : exec (.bodyData b) s =
    .next { s.pulseDefaults.emit .payload b (bodyPosition s) with
      acc := add8 s.acc b, cnt := s.cnt - 1 } := rfl

@[simp] theorem bodyPosition_tick : bodyPosition s.tick = bodyPosition s := rfl

end Meanings

/-! ## Acceptance -/

theorem accepted_of_rst {s : State} (h : s.now.rst = true) : accepted s = none := by
  simp [accepted, inReady, h]

theorem accepted_of_not_live {s : State} (h : s.state.live = false) : accepted s = none := by
  simp [accepted, inReady, h]

theorem accepted_of_fail {s : State} (h : s.now.xportFail = true) : accepted s = none := by
  simp [accepted, inReady, h]

/-- A byte is accepted only in a live state, without `rst`, `xport_fail` and `sink_hold`. -/
theorem of_accepted {s : State} {b : Byte} (h : accepted s = some b) :
    s.state.live = true ∧ s.now.rst = false ∧ s.now.xportFail = false ∧ s.now.sinkHold = false ∧
      s.now.inValid = true ∧ s.now.inByte = b := by
  simp only [accepted, inReady, Bool.and_eq_true, Bool.not_eq_true', ite_eq_iff, Option.some.injEq] at h
  simp_all

/-! ## The operation a cycle performs -/

/-- The operation of a cycle, from the handshake instead of the selector vector. -/
def selected (s : State) : Instr :=
  if s.now.rst then .reset
  else match s.state with
    | .desync => .haltDesync
    | .failed => .haltFailed
    | .rsv5 => .illegalState
    | .rsv6 => .illegalState
    | .rsv7 => .illegalState
    | .awaitHdr =>
      if s.now.xportFail then .xportFail
      else match accepted s with
        | none => .idle
        | some b => if b = 0x72 then .hdrPrimary b else if b = 0x1C then .hdrTrace b else .hdrBad b
    | .readLen =>
      if s.now.xportFail then .xportFail
      else match accepted s with
        | none => .idle
        | some b => if b = 0x00 then .lenZero b else if b = 0x01 then .lenOne b else .lenBody b
    | .readBody =>
      if s.cnt = 0 then .illegalCnt0
      else if s.now.xportFail then .xportFail
      else match accepted s with
        | none => .idle
        | some b => if s.cnt = 1 then .bodyChk b else .bodyData b

theorem decode_osv (s : State) : decode (osv s) = .ok (selected s) := by
  rw [osv, decode_packOsv, selected]
  congr 1
  cases hr : s.now.rst
  swap
  · rfl
  cases hs : s.state <;>
    simp [ProtocolState.code, ProtocolState.live, accepted, inReady, hr, hs] <;>
    cases s.now.xportFail <;> cases s.now.inValid <;> cases s.now.sinkHold <;> simp

/-- What a step does. -/
theorem step_eq (s : State) : step s = exec (selected s) s.tick := by
  rw [step, decode_osv]

/-! ## Case analysis over a cycle -/

/-- The operation `i` is performed by a cycle in state `s`: R84's "selects when" column, with the
handshake in place of the selector bits. One case per operation. -/
inductive Performs (s : State) : Instr → Prop where
  | reset (rst : s.now.rst = true) : Performs s .reset
  | haltDesync (rst : s.now.rst = false) (state : s.state = .desync) : Performs s .haltDesync
  | haltFailed (rst : s.now.rst = false) (state : s.state = .failed) : Performs s .haltFailed
  | illegalState (rst : s.now.rst = false) (state : s.state.reserved = true) :
    Performs s .illegalState
  | illegalCnt0 (rst : s.now.rst = false) (state : s.state = .readBody) (cnt : s.cnt = 0) :
    Performs s .illegalCnt0
  | xportFail (rst : s.now.rst = false) (state : s.state.live = true)
    (cnt : s.state = .readBody → s.cnt ≠ 0) (fail : s.now.xportFail = true) : Performs s .xportFail
  | idle (rst : s.now.rst = false) (state : s.state.live = true)
    (cnt : s.state = .readBody → s.cnt ≠ 0) (fail : s.now.xportFail = false)
    (none : accepted s = none) : Performs s .idle
  | hdrPrimary (state : s.state = .awaitHdr) (byte : accepted s = some 0x72) :
    Performs s (.hdrPrimary 0x72)
  | hdrTrace (state : s.state = .awaitHdr) (byte : accepted s = some 0x1C) :
    Performs s (.hdrTrace 0x1C)
  | hdrBad (b : Byte) (state : s.state = .awaitHdr) (byte : accepted s = some b) (h1 : b ≠ 0x72)
    (h2 : b ≠ 0x1C) : Performs s (.hdrBad b)
  | lenZero (state : s.state = .readLen) (byte : accepted s = some 0x00) : Performs s (.lenZero 0x00)
  | lenOne (state : s.state = .readLen) (byte : accepted s = some 0x01) : Performs s (.lenOne 0x01)
  | lenBody (l : Byte) (state : s.state = .readLen) (byte : accepted s = some l)
    (two : 2 ≤ l.toNat) : Performs s (.lenBody l)
  | bodyChk (c : Byte) (state : s.state = .readBody) (byte : accepted s = some c)
    (cnt : s.cnt = 1) : Performs s (.bodyChk c)
  | bodyData (b : Byte) (state : s.state = .readBody) (byte : accepted s = some b)
    (cnt : 2 ≤ s.cnt.toNat) : Performs s (.bodyData b)

theorem two_le_toNat_iff (b : Byte) : 2 ≤ b.toNat ↔ b ≠ 0 ∧ b ≠ 1 := by
  constructor
  · rintro h
    constructor <;> rintro rfl <;> simp at h
  · rintro ⟨h0, h1⟩
    have : b.toNat ≠ 0 := fun h => h0 (BitVec.eq_of_toNat_eq h)
    have : b.toNat ≠ 1 := fun h => h1 (BitVec.eq_of_toNat_eq h)
    omega

/-- Every cycle performs the operation it selects. -/
theorem performs_selected (s : State) : Performs s (selected s) := by
  unfold selected
  cases hr : s.now.rst
  swap
  · exact .reset hr
  cases hs : s.state with
  | desync => exact .haltDesync hr hs
  | failed => exact .haltFailed hr hs
  | rsv5 => exact .illegalState hr (by rw [hs]; rfl)
  | rsv6 => exact .illegalState hr (by rw [hs]; rfl)
  | rsv7 => exact .illegalState hr (by rw [hs]; rfl)
  | awaitHdr =>
    have hl : s.state.live = true := by rw [hs]; rfl
    have hc : s.state = .readBody → s.cnt ≠ 0 := by simp [hs]
    cases hf : s.now.xportFail
    swap
    · exact .xportFail hr hl hc hf
    cases ha : accepted s with
    | none => exact .idle hr hl hc hf ha
    | some b =>
      by_cases h1 : b = 0x72
      · subst h1; exact .hdrPrimary hs ha
      by_cases h2 : b = 0x1C
      · subst h2; exact .hdrTrace hs ha
      dsimp only
      rw [if_neg Bool.false_ne_true, if_neg h1, if_neg h2]
      exact .hdrBad b hs ha h1 h2
  | readLen =>
    have hl : s.state.live = true := by rw [hs]; rfl
    have hc : s.state = .readBody → s.cnt ≠ 0 := by simp [hs]
    cases hf : s.now.xportFail
    swap
    · exact .xportFail hr hl hc hf
    cases ha : accepted s with
    | none => exact .idle hr hl hc hf ha
    | some b =>
      by_cases h1 : b = 0x00
      · subst h1; exact .lenZero hs ha
      by_cases h2 : b = 0x01
      · subst h2; exact .lenOne hs ha
      dsimp only
      rw [if_neg Bool.false_ne_true, if_neg h1, if_neg h2]
      exact .lenBody b hs ha ((two_le_toNat_iff b).mpr ⟨h1, h2⟩)
  | readBody =>
    have hl : s.state.live = true := by rw [hs]; rfl
    by_cases h0 : s.cnt = 0
    · dsimp only
      rw [if_neg Bool.false_ne_true, if_pos h0]
      exact .illegalCnt0 hr hs h0
    have hc : s.state = .readBody → s.cnt ≠ 0 := fun _ => h0
    dsimp only
    rw [if_neg Bool.false_ne_true, if_neg h0]
    cases hf : s.now.xportFail
    swap
    · exact .xportFail hr hl hc hf
    rw [if_neg Bool.false_ne_true]
    cases ha : accepted s with
    | none => exact .idle hr hl hc hf ha
    | some b =>
      dsimp only
      by_cases h1 : s.cnt = 1
      · rw [if_pos h1]
        exact .bodyChk b hs ha h1
      · rw [if_neg h1]
        exact .bodyData b hs ha ((two_le_toNat_iff _).mpr ⟨h0, h1⟩)

theorem reserved_eq_false_of_live {p : ProtocolState} (h : p.live = true) : p.reserved = false := by
  cases p <;> simp_all [ProtocolState.live, ProtocolState.reserved]

/-- A cycle performs one operation. -/
theorem performs_unique {s : State} {i j : Instr} (hi : Performs s i) (hj : Performs s j) :
    i = j := by
  cases hi <;> cases hj <;>
    first
      | rfl
      | (have := reserved_eq_false_of_live ‹s.state.live = true›; simp_all; done)
      | (simp_all; done)
      | (simp_all [accepted, inReady, ProtocolState.live, ProtocolState.reserved])

/-- A step performs an operation, and is its meaning. -/
theorem step_of_performs {s : State} {i : Instr} (h : Performs s i) : step s = exec i s.tick := by
  rw [step_eq, performs_unique (performs_selected s) h]

/-- A step that answers a next state performs an operation that answers it. -/
theorem step_cases {s t : State} (h : step s = .next t) :
    ∃ i, Performs s i ∧ exec i s.tick = .next t :=
  ⟨selected s, performs_selected s, by rw [← step_eq, h]⟩

/-! ## Placing a selector vector -/

theorem code_ofCode : ∀ c : BitVec 3, (ProtocolState.ofCode c).code = c := by decide

theorem countForSelector_zero :
    ∀ z last (c : Byte), (countForSelector z last c == 0) = z := by decide

theorem countForSelector_one :
    ∀ last (c : Byte), (countForSelector false last c == 1) = last := by decide

/-- The selector vector of a state in which `w` was placed: `w`'s own fields, but for `LAST`. -/
theorem osv_placeSelector (s : State) (w : Osv) : osv (s.placeSelector w) =
    packOsv (osvZ w) (osvRst w) (osvFail w) (osvV w) (osvS w)
      (countForSelector (osvZ w) (osvLast w) s.cnt == 1) (osvByte w) := by
  have h : (s.placeSelector w).now = inputsForSelector w := rfl
  rw [osv, h, placeSelector_cnt, placeSelector_state, countForSelector_zero, code_ofCode]
  simp [inputsForSelector]

/-! ## The cycles to come -/

@[simp] theorem inputAt_zero (s : State) : s.inputAt 0 = s.now := by
  rcases h : s.inputs with _ | ⟨x, xs⟩ <;> simp [State.inputAt, State.now, h]

@[simp] theorem inputAt_tick (s : State) (k : Nat) : s.tick.inputAt k = s.inputAt (k + 1) := by
  rcases h : s.inputs with _ | ⟨x, xs⟩ <;>
    simp [State.inputAt, State.tick, h, Nat.add_assoc, Nat.add_comm 1 k]

end Sys2Proof.Machine
end

