-- ==== Sys2Proof/Laws/Run.lean ====
section
/-! SUPPORT. Runs of several cycles: the first step and the rest, and the induction over runs. -/

namespace Sys2Proof.Safety

open Sys2Proof.Machine

@[simp] theorem run_zero (s : State) : run 0 s = .next s := rfl

/-- A run's first step and the rest. -/
theorem run_succ_of_step {n : Nat} {s t : State} (h : step s = .next t) :
    run (n + 1) s = run n t := by
  have h' : core.step s = .next t := h
  simp only [run, Host.Core.run, h']
  rfl

theorem run_succ_of_fault {n : Nat} {s : State} {f : Fault} (h : step s = .fault f) :
    run (n + 1) s = .fault f := by
  have h' : core.step s = .fault f := h
  simp only [run, Host.Core.run, h']
  rfl

/-- Package of an induction over runs: what one step keeps, every run keeps. -/
theorem run_induction {P : State → Prop} (hstep : ∀ s, P s → ∃ t, step s = .next t ∧ P t) :
    ∀ (n : Nat) (s : State), P s → ∃ t, run n s = .next t ∧ P t := by
  intro n
  induction n with
  | zero => exact fun s hs => ⟨s, rfl, hs⟩
  | succ n ih =>
    intro s hs
    obtain ⟨t, ht, hp⟩ := hstep s hs
    obtain ⟨u, hu, hq⟩ := ih t hp
    exact ⟨u, (run_succ_of_step ht).trans hu, hq⟩

end Sys2Proof.Safety
end

