-- ==== Sys2Proof/Tests/Slice0.lean ====
section
/-! SUPPORT. The model's own tests. Expected values are those of 95_test_vectors.md, whose names the
tests carry; the words of the decoder's tests are written out from the fields of 30_encoding.md R80.
After them, one witness for the hypotheses of each statement of Certificates/Slice0/Obligations.lean
that has any. -/

namespace Sys2Proof.Tests

open Sys2Proof.Machine Sys2Proof.Safety

/-! ## WellFormed: each check refuses an ill-formed operation -/

theorem test_wellFormed_hdrPrimary : Instr.wellFormed (.hdrPrimary 0x73) = false := by decide
theorem test_wellFormed_hdrTrace : Instr.wellFormed (.hdrTrace 0x1D) = false := by decide
theorem test_wellFormed_hdrBad_primary : Instr.wellFormed (.hdrBad 0x72) = false := by decide
theorem test_wellFormed_hdrBad_trace : Instr.wellFormed (.hdrBad 0x1C) = false := by decide
theorem test_wellFormed_lenZero : Instr.wellFormed (.lenZero 0x01) = false := by decide
theorem test_wellFormed_lenOne : Instr.wellFormed (.lenOne 0x00) = false := by decide
theorem test_wellFormed_lenBody_zero : Instr.wellFormed (.lenBody 0x00) = false := by decide
theorem test_wellFormed_lenBody_one : Instr.wellFormed (.lenBody 0x01) = false := by decide
theorem test_wellFormed_script :
    ScriptItem.wellFormed (.frame 0x72 (List.replicate 254 0)) = false := by
  rw [ScriptItem.wellFormed, List.length_replicate]; decide

/-! ## Decoding: words written bit by bit, `Z RST FAIL V _ S S S LAST _ BYTE` (R80, R84) -/

theorem test_decode_reset : decode 0b0100010000000000 = .ok .reset := by decide
theorem test_decode_haltDesync : decode 0b1001011001110010 = .ok .haltDesync := by decide
theorem test_decode_haltFailed : decode 0b1001100001110010 = .ok .haltFailed := by decide
theorem test_decode_illegalState : decode 0b1001101001110010 = .ok .illegalState := by decide
theorem test_decode_illegalCnt0 : decode 0b1001010001110010 = .ok .illegalCnt0 := by decide
theorem test_decode_xportFail : decode 0b1011001000000110 = .ok .xportFail := by decide
theorem test_decode_idle : decode 0b0000010001000100 = .ok .idle := by decide
theorem test_decode_hdrPrimary : decode 0b1001000001110010 = .ok (.hdrPrimary 0x72) := by decide
theorem test_decode_hdrTrace : decode 0b1001000000011100 = .ok (.hdrTrace 0x1C) := by decide
theorem test_decode_hdrBad : decode 0b1001000010011001 = .ok (.hdrBad 0x99) := by decide
theorem test_decode_lenZero : decode 0b1001001000000000 = .ok (.lenZero 0x00) := by decide
theorem test_decode_lenOne : decode 0b1001001000000001 = .ok (.lenOne 0x01) := by decide
theorem test_decode_lenBody : decode 0b1001001011111111 = .ok (.lenBody 0xFF) := by decide
theorem test_decode_bodyChk : decode 0b0001010111111111 = .ok (.bodyChk 0xFF) := by decide
theorem test_decode_bodyData : decode 0b0001010010101010 = .ok (.bodyData 0xAA) := by decide

/-- A vector that R81 says cannot occur, `Z = LAST = 1`, still selects an operation. -/
theorem test_decode_z_and_last : decode 0b1001010101110010 = .ok .illegalCnt0 := by decide

/-- The table's last row, at its last vector but for the don't-care bits it has none of. -/
theorem test_decodeTableWord : decodeTableWord 16 0x14FF = some (.bodyData 0xFF) := by decide

theorem test_decodeTableWord_too_long : decodeTableWord 24 0x9072 = none := by decide

/-! ## The states of the vectors -/

/-- A start state of a vector: what it names, every other register at its reset value, and the ports
of one cycle. -/
def start (st : ProtocolState) (var : Bool) (len cnt acc : Byte) (x : Inputs) : State :=
  { State.reset with state := st, var := var, len := len, cnt := cnt, acc := acc, inputs := [x] }

/-- The report of vectors V-H7, V-I3, V-L8 and V-S1 that an earlier frame left. -/
def reported (s : State) : State :=
  { s with oPrimary := true, oOk := true, oCalc := 0x30, oExp := 0x30, oLen := 0x06 }

/-- The ports `in_valid` and `in_byte`. -/
def offer (b : Byte) : Inputs := ScriptLine.inputs (.offer b)

def after (s : State) : Option State :=
  match step s with
  | .next t => some t
  | .fault _ => none
  | .refused _ => none

def stops (s : State) : Option Fault :=
  match step s with
  | .next _ => none
  | .fault f => some f
  | .refused _ => none

/-- `STATE`, `VAR`, `LEN`, `CNT`, `ACC`. -/
def control (t : State) : ProtocolState × Bool × Byte × Byte × Byte :=
  (t.state, t.var, t.len, t.cnt, t.acc)

/-- A frame report. -/
structure Report where
  done : Bool
  primary : Bool
  ok : Bool
  short : Bool
  computed : Byte
  expected : Byte
  len : Byte
  deriving DecidableEq, Repr

/-- `O_DONE`, `O_PRIMARY`, `O_OK`, `O_SHORT`, `O_CALC`, `O_EXP`, `O_LEN`. -/
def report (t : State) : Report :=
  ⟨t.oDone, t.oPrimary, t.oOk, t.oShort, t.oCalc, t.oExp, t.oLen⟩

/-- `O_BVALID`, `O_BYTE`, `O_ROLE`, `O_BIDX`. -/
def tag (t : State) : Bool × Byte × BitVec 2 × Byte := (t.oBvalid, t.oByte, t.oRole.code, t.oBidx)

/-- `live(STATE)`, `O_CAUSE`, `O_PERSIST`: a vector's "next" column. -/
def outputs (t : State) : Bool × BitVec 3 × Bool := (t.state.live, oCause t, oPersist t)

/-! ## Checksum arithmetic (section 2.1) -/

theorem test_V_C1_to_C5 : add8 0x00 0x00 = 0x00 ∧ add8 0x7F 0x01 = 0x80 ∧ add8 0xFF 0x01 = 0x00 ∧
    add8 0x80 0x80 = 0x00 ∧ add8 0xFF 0xFF = 0xFE := by decide

theorem test_V_C6_to_C8 : sum8 [] = 0x00 ∧ sum8 [0x72, 0x02] = 0x74 ∧
    checksum [0x1C, 0x06, 0xAA, 0xBB, 0xCC, 0xDD] = 0x30 := by decide

theorem test_V_C9_to_C14 : verify [0x72, 0x02] 0x74 = true ∧ verify [0x72, 0x02] 0x75 = false ∧
    verify [0x02, 0x72] 0x74 = true ∧ verify [0x73, 0x01] 0x74 = true ∧ verify [] 0x00 = true ∧
    verify [] 0x01 = false := by decide

/-! ## One step of each operation (sections 2.2 to 2.6) -/

theorem test_V_H1 : let s := start .awaitHdr false 0 0 0 (offer 0x72)
    osv s = 0x9072 ∧ (after s).map control = some (.readLen, true, 0, 0, 0x72) ∧
    (after s).map tag = some (true, 0x72, 0, 0x00) ∧ (after s).map outputs = some (true, 0, false) := by
  decide

/-- A header right after a frame end: `O_DONE` falls and the report holds. -/
theorem test_V_H9 : let s := { start .awaitHdr true 0x02 0 0x74 (offer 0x72) with
      oDone := true, oPrimary := true, oOk := true, oCalc := 0x74, oExp := 0x74, oLen := 0x02,
      oBvalid := true, oByte := 0x74, oRole := .chk, oBidx := 0x02 }
    osv s = 0x9072 ∧ (after s).map control = some (.readLen, true, 0x02, 0, 0x72) ∧
    (after s).map report = some ⟨false, true, true, false, 0x74, 0x74, 0x02⟩ ∧
    (after s).map tag = some (true, 0x72, 0, 0x00) := by decide

theorem test_V_H7 : let s := reported (start .awaitHdr true 0x11 0 0xEE (offer 0x1C))
    osv s = 0x901C ∧ (after s).map control = some (.readLen, false, 0x11, 0, 0x1C) ∧
    (after s).map report = some ⟨false, true, true, false, 0x30, 0x30, 0x06⟩ ∧
    (after s).map tag = some (true, 0x1C, 0, 0x00) := by decide

theorem test_V_H3 : let s := start .awaitHdr false 0 0 0 (offer 0x99)
    osv s = 0x9099 ∧ (after s).map control = some (.desync, false, 0, 0, 0) ∧
    (after s).map tag = some (true, 0x99, 0, 0x00) ∧ (after s).map outputs = some (false, 2, false) := by
  decide

/-- Vector S3-literal, cycle 7: a rejected header leaves `ACC` and the report. -/
theorem test_S3_literal_7 : let s := { start .awaitHdr false 0x05 0 0x52 (offer 0x2F) with
      oDone := true, oCalc := 0x52, oExp := 0xDD, oLen := 0x05 }
    osv s = 0x902F ∧ (after s).map control = some (.desync, false, 0x05, 0, 0x52) ∧
    (after s).map report = some ⟨false, false, false, false, 0x52, 0xDD, 0x05⟩ := by decide

theorem test_V_L3 : let s := start .readLen true 0 0 0x72 (offer 0x8E)
    osv s = 0x928E ∧ (after s).map control = some (.readBody, true, 0x8E, 0x8D, 0x00) ∧
    (after s).map tag = some (true, 0x8E, 1, 0x01) := by decide

theorem test_V_L2 : let s := start .readLen true 0 0 0x72 (offer 0x02)
    osv s = 0x9202 ∧ (after s).map control = some (.readBody, true, 0x02, 0x01, 0x74) := by decide

theorem test_V_L5 : let s := start .readLen true 0 0 0x72 (offer 0x01)
    osv s = 0x9201 ∧ (after s).map control = some (.awaitHdr, true, 0x01, 0, 0x73) ∧
    (after s).map report = some ⟨true, true, false, true, 0x73, 0x00, 0x01⟩ ∧
    (after s).map tag = some (true, 0x01, 1, 0x01) ∧ (after s).map outputs = some (true, 4, true) := by
  decide

theorem test_V_L8 : let s := reported (start .readLen false 0x06 0 0x1C (offer 0x01))
    (after s).map control = some (.awaitHdr, false, 0x01, 0, 0x1D) ∧
    (after s).map report = some ⟨true, false, false, true, 0x1D, 0x00, 0x01⟩ := by decide

theorem test_V_L6 : let s := start .readLen false 0 0 0x1C (offer 0x00)
    osv s = 0x9200 ∧ (after s).map control = some (.awaitHdr, false, 0, 0, 0x1C) ∧
    (after s).map report = some ⟨true, false, false, true, 0x1C, 0x00, 0x00⟩ ∧
    (after s).map tag = some (true, 0x00, 1, 0x01) ∧ (after s).map outputs = some (true, 4, false) := by
  decide

theorem test_V_B3 : let s := start .readBody true 0x10 0x02 0xF0 (offer 0x10)
    osv s = 0x1410 ∧ (after s).map control = some (.readBody, true, 0x10, 0x01, 0x00) ∧
    (after s).map tag = some (true, 0x10, 2, 0x0F) := by decide

theorem test_V_B9 : let s := start .readBody true 0xFF 0xFE 0x71 (offer 0x00)
    osv s = 0x1400 ∧ (after s).map control = some (.readBody, true, 0xFF, 0xFD, 0x71) ∧
    (after s).map tag = some (true, 0x00, 2, 0x02) := by decide

theorem test_V_B5 : let s := start .readBody true 0x11 0x01 0xEE (offer 0xFF)
    osv s = 0x15FF ∧ (after s).map control = some (.awaitHdr, true, 0x11, 0, 0xEE) ∧
    (after s).map report = some ⟨true, true, false, false, 0xEE, 0xFF, 0x11⟩ ∧
    (after s).map tag = some (true, 0xFF, 3, 0x11) ∧ (after s).map outputs = some (true, 3, true) := by
  decide

theorem test_V_B4 : let s := start .readBody false 0x06 0x01 0x30 (offer 0x30)
    osv s = 0x1530 ∧ (after s).map report = some ⟨true, false, true, false, 0x30, 0x30, 0x06⟩ ∧
    (after s).map tag = some (true, 0x30, 3, 0x06) ∧ (after s).map outputs = some (true, 0, false) := by
  decide

/-- `sink_hold` in the body: the byte is not consumed. -/
theorem test_V_B10 : let s := start .readBody true 0x06 0x03 0x11 (ScriptLine.inputs (.held 0x44))
    osv s = 0x0444 ∧ (after s).map control = some (.readBody, true, 0x06, 0x03, 0x11) ∧
    (after s).map tag = some (false, 0x00, 0, 0x00) := by decide

/-- The two pulses fall; the report and the tag hold. -/
theorem test_V_I3 : let s := { reported (start .awaitHdr false 0 0 0 (ScriptLine.inputs .quiet)) with
      oDone := true, oBvalid := true, oByte := 0x30, oRole := .chk, oBidx := 0x06 }
    osv s = 0x8000 ∧ (after s).map report = some ⟨false, true, true, false, 0x30, 0x30, 0x06⟩ ∧
    (after s).map tag = some (false, 0x30, 3, 0x06) ∧ (after s).map outputs = some (true, 0, false) := by
  decide

theorem test_V_B11 : let s := start .readBody true 0x06 0x03 0x11 (ScriptLine.inputs .fail)
    osv s = 0x2400 ∧ (after s).map control = some (.failed, true, 0x06, 0x03, 0x11) ∧
    (after s).map outputs = some (false, 1, false) := by decide

/-- `xport_fail` beats a byte and `sink_hold`. -/
theorem test_V_S13 : let s := start .readBody true 0x06 0x03 0x11 ⟨false, true, true, true, 0x44⟩
    osv s = 0x2444 ∧ (after s).map control = some (.failed, true, 0x06, 0x03, 0x11) ∧
    (after s).map tag = some (false, 0x00, 0, 0x00) := by decide

theorem test_V_S1 : let s := { reported (start .readBody true 0x06 0x03 0x11 (ScriptLine.inputs .reset))
      with oByte := 0x44, oRole := .payload, oBidx := 0x03 }
    osv s = 0x4400 ∧ (after s).map control = some (.awaitHdr, false, 0, 0, 0) ∧
    (after s).map report = some ⟨false, false, false, false, 0, 0, 0⟩ ∧
    (after s).map tag = some (false, 0, 0, 0) ∧ (after s).map outputs = some (true, 0, false) := by
  decide

/-- Every control input at once, in a reserved state: reset wins (V-S11, V-S12). -/
theorem test_V_S11 : let s := start .rsv7 false 0 0 0 ⟨true, true, true, true, 0x44⟩
    (after s).map control = some (.awaitHdr, false, 0, 0, 0) := by decide

/-- A second fatal event in `DESYNC` is ignored. -/
theorem test_V_S5 : let s := { start .desync false 0 0 0 (ScriptLine.inputs .fail) with oByte := 0x99 }
    osv s = 0xA600 ∧ (after s).map control = some (.desync, false, 0, 0, 0) ∧
    (after s).map tag = some (false, 0x99, 0, 0x00) ∧ (after s).map outputs = some (false, 2, false) := by
  decide

theorem test_V_S6 : let s := { start .desync false 0 0 0 (offer 0x72) with oByte := 0x99 }
    osv s = 0x9672 ∧ inReady s = false ∧ (after s).map tag = some (false, 0x99, 0, 0x00) := by decide

theorem test_V_S7 : let s := start .failed false 0 0 0 (offer 0x72)
    osv s = 0x9872 ∧ inReady s = false ∧ (after s).map control = some (.failed, false, 0, 0, 0) ∧
    (after s).map outputs = some (false, 1, false) := by decide

theorem test_V_S9 : let s := start .rsv5 false 0 0 0 (offer 0x72)
    osv s = 0x9A72 ∧ stops s = some .illegalState := by decide

theorem test_V_S10 : let s := start .readBody false 0x06 0x00 0 (offer 0x72)
    osv s = 0x9472 ∧ stops s = some .illegalCount := by decide

/-- The operation placed at reset is the one that runs (program P1, cycle 6). -/
theorem test_withFetchWord : let s := State.reset.withFetchWord 16 0x153D
    osv s = 0x153D ∧ (after s).map report = some ⟨true, false, false, false, 0x00, 0x3D, 0x00⟩ := by
  decide

/-- Program P1's script (section 3): its port values, one row a cycle. -/
theorem test_script_P1 : scriptInputs [.line .reset, .frame 0x72 [0x41, 0x42, 0x43], .idle 1] =
    [⟨true, false, false, false, 0x00⟩, offer 0x72, offer 0x05, offer 0x41, offer 0x42, offer 0x43,
      offer 0x3D, ⟨false, false, false, false, 0x00⟩] := by decide

/-! ## Witnesses: states that meet each statement's hypotheses

A witness bears the name of its statement, shortened. Shared ones: `witness_Lengths` for the three
length operations; `witness_Bodies`, `witness_PayloadByte` and `witness_ChecksumByte` for the body
operations; `witness_TerminalStates` for `HALT_DESYNC` and `HALT_FAILED`; `witness_ReservedStates` and
`witness_ReservedStateRuns` for the two illegal operations; `witness_FrameEnds`,
`witness_FrameEnds_inv` and `witness_Reset` for the done pulse, the report registers, the reported
length, the byte tags, the persist and the cause statements; `witness_VerifyRoundTrips` also for the
second clause on the accumulator; `witness_Reset` also for the reset values. -/

/-- After `72 06 44`: position 3, `CNT` 4. -/
def inBody (cnt acc : Byte) (x : Inputs) : State := start .readBody true 0x06 cnt acc x

theorem frameInv_atHeader (x : Inputs) : FrameInv [] (start .awaitHdr false 0 0 0 x) := by
  constructor <;> simp [start, ProtocolState.reserved]

/-- The lowest position of a body: after `72 06`. -/
theorem frameInv_first (x : Inputs) : FrameInv [0x72, 0x06] (inBody 5 0x78 x) := by
  constructor <;> simp [inBody, start, ProtocolState.reserved, bodyPosition, sum8, add8,
    Config.hdrPrimary]

/-- The highest position of a body: the checksum byte of `72 02`. -/
theorem frameInv_last (x : Inputs) : FrameInv [0x72, 0x02] (start .readBody true 0x02 1 0x74 x) := by
  constructor <;> simp [start, ProtocolState.reserved, bodyPosition, sum8, add8, Config.hdrPrimary]

/-- After a trace header. -/
theorem frameInv_length (x : Inputs) : FrameInv [0x1C] (start .readLen false 0x06 0 0x1C x) := by
  constructor <;> simp [start, ProtocolState.reserved, sum8, add8, Config.hdrTrace]

/-- A report that meets `ReportInv` in the cycle of its pulse. -/
theorem reportInv_done : ReportInv { start .awaitHdr true 0x02 0 0x74 (offer 0x72) with
      oDone := true, oPrimary := true, oOk := true, oCalc := 0x74, oExp := 0x74, oLen := 0x02,
      oBvalid := true, oByte := 0x74, oRole := .chk, oBidx := 0x02 } := by
  constructor <;> simp [start, State.reset]

theorem witness_DecodedOperationRuns :
    decode (osv (start .readLen true 0 0 0x72 (offer 0x06))) = .ok (.lenBody 0x06) := by decide

theorem witness_PlacedWordIsTheWordRun :
    decode (osv (State.reset.withFetchWord 16 0xFFFF)) = decode 0xFFFF ∧ 0xFFFF < 65536 := by decide

theorem witness_SelectorVectorBits :
    osv (inBody 3 0x11 (offer 0x44)) = osv (start .readBody false 0x09 5 0 (offer 0x44)) := by decide

theorem witness_FirstMatchingRow : decode 0x1401 = .ok (.bodyData 0x01) := by decide

theorem witness_DecodeOfEncode : Instr.wellFormed (.hdrBad 0x99) = true ∧
    Instr.wellFormed (.lenBody 0x02) = true := by decide

theorem witness_DecodedOperationsAreWellFormed :
    decode 0x90FF = .ok (.hdrBad 0xFF) ∧ Instr.operand (.hdrBad 0xFF) = some 0xFF := by decide

theorem witness_Acceptance :
    let s := inBody 3 0x11 (offer 0x44)
    let h := inBody 3 0x11 (ScriptLine.inputs (.held 0x44))
    accepted s = some 0x44 ∧ h.inputs = [⟨false, false, true, true, 0x44⟩] ∧ inReady h = false := by
  decide

theorem witness_SelectorFields :
    let s := inBody 3 0x11 (offer 0x44)
    (osvZ 0x8100 = true ∧ osvLast 0x8100 = true) ∧ s.state.live = true ∧ osvV (osv s) = true ∧
      osvFail (osv s) = false ∧ osvRst (osv s) = false := by decide

theorem witness_AcceptedByteIsTheOperand :
    decode (osv (inBody 1 0x11 (offer 0x44))) = .ok (.bodyChk 0x44) ∧
      Instr.bodyChk 0x44 ≠ .illegalCnt0 := by decide

theorem witness_Idle :
    let s := inBody 3 0x11 (ScriptLine.inputs .quiet)
    s.state.live = true ∧ ¬ (s.state = .readBody ∧ s.cnt = 0) ∧ s.now.rst = false ∧
      s.now.xportFail = false ∧ s.now.inValid = false := by decide

theorem witness_Idle_next (s : State) : exec .idle s = .next s.pulseDefaults := rfl

theorem witness_PrimaryHeader : let s := start .awaitHdr false 0 0 0 (offer 0x72)
    s.state = .awaitHdr ∧ accepted s = some 0x72 ∧ FrameInv [] s ∧ (after s).isSome := by
  exact ⟨rfl, by decide, frameInv_atHeader _, by decide⟩

theorem witness_TraceHeader : let s := start .awaitHdr false 0 0 0 (offer 0x1C)
    s.state = .awaitHdr ∧ accepted s = some 0x1C ∧ FrameInv [] s ∧ (after s).isSome := by
  exact ⟨rfl, by decide, frameInv_atHeader _, by decide⟩

theorem witness_UnrecognizedHeader : let s := start .awaitHdr false 0 0 0 (offer 0x73)
    accepted s = some 0x73 ∧ (0x73 : Byte) ≠ 0x72 ∧ (0x73 : Byte) ≠ 0x1C ∧
      (after (start .desync false 0 0 0 (offer 0x72))).isSome := by decide

/-- The lengths at which the three clauses meet: 0, 1, 2, and 255. -/
theorem witness_Lengths : let s (l : Byte) := start .readLen true 0 0 0x72 (offer l)
    accepted (s 0x00) = some 0x00 ∧ accepted (s 0x01) = some 0x01 ∧ accepted (s 0x02) = some 0x02 ∧
      accepted (s 0xFF) = some 0xFF ∧ 2 ≤ (0x02 : Byte).toNat ∧ 2 ≤ (0xFF : Byte).toNat ∧
      ¬ 2 ≤ (0x01 : Byte).toNat := by decide

/-- Counts at which the two body clauses meet: 1, 2, and 254. -/
theorem witness_Bodies : let s (c : Byte) := start .readBody true 0xFF c 0x71 (offer 0x44)
    accepted (s 1) = some 0x44 ∧ accepted (s 2) = some 0x44 ∧ accepted (s 254) = some 0x44 ∧
      2 ≤ (s 2).cnt.toNat ∧ 2 ≤ (s 254).cnt.toNat ∧ ¬ 2 ≤ (s 1).cnt.toNat := by decide

theorem witness_PayloadByte : FrameInv [0x72, 0x06] (inBody 5 0x78 (offer 0x44)) ∧
    2 ≤ (inBody 5 0x78 (offer 0x44)).cnt.toNat := ⟨frameInv_first _, by decide⟩

/-- Both outcomes of the comparison. -/
theorem witness_ChecksumByte : let s := start .readBody true 0x02 1 0x74
    accepted (s (offer 0x74)) = some (s (offer 0x74)).acc ∧
      accepted (s (offer 0x75)) = some 0x75 ∧ (s (offer 0x75)).acc ≠ 0x75 := by decide

theorem witness_Reset : let s := { start .failed false 0 0 0 (ScriptLine.inputs .reset) with
      inputs := [ScriptLine.inputs .reset, ScriptLine.inputs .reset] }
    s.now.rst = true ∧ (after s).map (fun t => t.now.rst) = some true ∧
      (after s).map (fun t => t.state) = some .awaitHdr ∧ ((after s).bind after).isSome := by decide

theorem witness_TransportFailure : let s := inBody 1 0x11 (ScriptLine.inputs .fail)
    s.state.live = true ∧ ¬ (s.state = .readBody ∧ s.cnt = 0) ∧ s.now.rst = false ∧
      s.now.xportFail = true := by decide

theorem witness_TerminalStates :
    let s (p : ProtocolState) := start p false 0 0 0 (offer 0x72)
    (s .desync).state = .desync ∧ (s .failed).state = .failed ∧ (s .failed).now.rst = false ∧
      (s .desync).now.rst = false := by decide

/-- All three reserved codes, and the count 0 in the body. -/
theorem witness_ReservedStates :
    let s (p : ProtocolState) := start p false 0x06 0 0 (offer 0x72)
    (s .rsv5).state.reserved = true ∧ (s .rsv6).state.reserved = true ∧
      (s .rsv7).state.reserved = true ∧ (s .rsv5).now.rst = false ∧ (s .readBody).cnt = 0 := by decide

theorem witness_ReservedStateRuns :
    ∃ s, run 1 { State.reset with inputs := [offer 0x72] } = .next s := ⟨_, rfl⟩

theorem witness_StateMoves : (∃ t, step (inBody 5 0x78 (offer 0x44)) = .next t) ∧
    transition .readBody (.bodyData 0x44) .readBody ∧ Instr.wellFormed (.bodyData 0x44) = true :=
  ⟨⟨_, rfl⟩, ⟨rfl, rfl⟩, rfl⟩

theorem witness_FrameInvariants : FrameInv [0x72, 0x06] (inBody 5 0x78 (offer 0x44)) ∧
    FrameInv [0x1C] (start .readLen false 0x06 0 0x1C (offer 0x03)) :=
  ⟨frameInv_first _, frameInv_length _⟩

theorem witness_ReportInvariants : ReportInv { start .awaitHdr true 0x02 0 0x74 (offer 0x72) with
      oDone := true, oPrimary := true, oOk := true, oCalc := 0x74, oExp := 0x74, oLen := 0x02,
      oBvalid := true, oByte := 0x74, oRole := .chk, oBidx := 0x02 } ∧
    ∃ t, step { start .awaitHdr true 0x02 0 0x74 (offer 0x72) with
      oDone := true, oPrimary := true, oOk := true, oCalc := 0x74, oExp := 0x74, oLen := 0x02,
      oBvalid := true, oByte := 0x74, oRole := .chk, oBidx := 0x02 } = .next t :=
  ⟨reportInv_done, ⟨_, rfl⟩⟩

/-- Two cycles without `rst`, then one with it. -/
theorem witness_TerminalRun : let s := { start .failed true 0 0 0x72 (offer 0x22) with
      inputs := [offer 0x22, ScriptLine.inputs .fail, ScriptLine.inputs .reset] }
    s.state = .failed ∧ (∀ k, k < 2 → (s.inputAt k).rst = false) ∧ (s.inputAt 2).rst = true := by
  decide

theorem witness_VerifyRoundTrips :
    let s := start .readBody true 0x02 1 0x74 (offer 0x74)
    FrameInv [0x72, 0x02] s ∧ s.state = .readBody ∧ s.cnt = 1 ∧
      accepted s = some (checksum [0x72, 0x02]) := ⟨frameInv_last _, rfl, rfl, by decide⟩

theorem witness_Accumulator :
    let s := inBody 5 0x78 (offer 0x44)
    FrameInv [0x72, 0x06] s ∧ (after s).map (fun t => t.state) = some .readBody :=
  ⟨frameInv_first _, by decide⟩

theorem witness_ChecksumMisses : [0x72, 0x02].Perm [(0x02 : Byte), 0x72] ∧ (0x01 : Byte) ≠ 0 ∧
    (0x75 : Byte) ≠ checksum [0x72, 0x02] := by decide

/-- A frame end in `READ_LEN` and one in `READ_BODY`, and a cycle that is none. -/
theorem witness_FrameEnds :
    frameEnds (start .readLen false 0x06 0 0x1C (offer 0x01)) = true ∧
    frameEnds (start .readBody true 0x02 1 0x74 (offer 0x75)) = true ∧
    frameEnds (start .readLen false 0x06 0 0x1C (offer 0x02)) = false ∧
    (after (start .readLen false 0x06 0 0x1C (offer 0x01))).isSome ∧
    (after (start .readBody true 0x02 1 0x74 (offer 0x75))).isSome ∧
    (after (start .readLen false 0x06 0 0x1C (offer 0x02))).isSome := by decide

theorem witness_FrameEnds_inv :
    FrameInv [0x1C] (start .readLen false 0x06 0 0x1C (offer 0x01)) ∧
    FrameInv [0x72, 0x02] (start .readBody true 0x02 1 0x74 (offer 0x75)) :=
  ⟨frameInv_length _, frameInv_last _⟩

theorem witness_DonePulse : let s := { start .readLen false 0x06 0 0x1C (offer 0x01) with
      inputs := [offer 0x01, offer 0x72] }
    (after s).isSome ∧ ((after s).bind after).isSome := by decide

theorem witness_SinkHold : let s := inBody 3 0x11 (ScriptLine.inputs (.held 0x44))
    s.now.sinkHold = true ∧ s.now.rst = false ∧ s.now.xportFail = false ∧ s.state.live = true ∧
      ¬ (s.state = .readBody ∧ s.cnt = 0) ∧ (after s).isSome := by decide

theorem witness_NextByte : let s := { start .readLen false 0x06 0 0x1C (offer 0x01) with
      inputs := [offer 0x01, offer 0x72] }
    frameEnds s = true ∧ (after s).bind accepted = some 0x72 ∧
      (after s).map (fun t => decode (osv t)) = some (.ok (.hdrPrimary 0x72)) := by decide

/-- Two states that share only the current frame. -/
theorem witness_SameFrame : SameFrame (inBody 5 0x78 (offer 0x44)) (reported (inBody 5 0x78 (offer 0x44))) ∧
    (after (inBody 5 0x78 (offer 0x44))).isSome :=
  ⟨⟨rfl, rfl, rfl, fun _ => ⟨rfl, rfl⟩, fun _ => ⟨rfl, rfl⟩⟩, by decide⟩

/-- `72 03 10 85` with an idle and a held cycle inside, then `1c`: the whole of the hypotheses. -/
theorem witness_FrameConsumes :
    let xs := [offer 0x72, ScriptLine.inputs .quiet, offer 0x03, ScriptLine.inputs (.held 0x10), offer 0x10]
    let x := offer 0x85
    let s := { State.reset with inputs := xs ++ x :: [offer 0x1C] }
    s.state = .awaitHdr ∧ s.inputs = xs ++ x :: [offer 0x1C] ∧
      (∀ y ∈ xs ++ [x], y.rst = false ∧ y.xportFail = false) ∧
      delivered (xs ++ [x]) = 0x72 :: 0x03 :: [0x10, 0x85] ∧ x.inValid = true ∧ x.sinkHold = false ∧
      [(0x10 : Byte), 0x85].length = (0x03 : Byte).toNat - 1 ∧ (after s).isSome ∧ 1 ≤ xs.length := by
  decide

/-- The lengths at which its two last clauses meet: 2, 1 and 0. -/
theorem witness_FrameConsumes_lengths :
    delivered ([offer 0x1C, offer 0x02] ++ [offer 0x1E]) = 0x1C :: 0x02 :: [0x1E] ∧
      [(0x1E : Byte)].length = (0x02 : Byte).toNat - 1 ∧ 2 ≤ (0x02 : Byte).toNat ∧
      delivered ([offer 0x1C] ++ [offer 0x01]) = 0x1C :: 0x01 :: [] ∧
      ([] : List Byte).length = (0x01 : Byte).toNat - 1 ∧ (0x01 : Byte).toNat < 2 ∧
      delivered ([offer 0x1C] ++ [offer 0x00]) = 0x1C :: 0x00 :: [] ∧
      ([] : List Byte).length = (0x00 : Byte).toNat - 1 := by decide

/-- The empty payload and the longest one, 253 bytes. -/
theorem witness_ScriptedFrame : ScriptItem.wellFormed (.frame 0x72 []) = true ∧
    ScriptItem.wellFormed (.frame 0x1C (List.replicate 253 0xFF)) = true ∧
    ({ State.reset with inputs := scriptInputs [.frame 0x72 []] ++ [] } : State).state = .awaitHdr := by
  refine ⟨by decide, ?_, rfl⟩
  rw [ScriptItem.wellFormed, List.length_replicate]; decide

theorem witness_ByteOfferedDuringReset :
    let s := { start .readLen true 0 0 0x72 ⟨true, false, true, false, 0x06⟩ with
      inputs := [⟨true, false, true, false, 0x06⟩, offer 0x06] }
    s.now.rst = true ∧ s.now.inValid = true ∧ ∃ t, step s = .next t ∧ KeepsOffer s t ∧
      t.now.rst = false ∧ inReady t = true :=
  ⟨rfl, rfl, _, rfl, fun _ _ => .inl ⟨rfl, rfl⟩, rfl, rfl⟩

end Sys2Proof.Tests
end

section
/-! PROOF. The scope's statement (00_scope.md R11): a cycle performs the operation it selects. -/

namespace Sys2Proof.Machine

/-- An operation that a cycle performs carries an operand that its row admits (R84). -/
theorem wellFormed_of_performs {s : State} {i : Instr} (h : Performs s i) :
    i.wellFormed = true := by
  cases h with
  | hdrBad b _ _ h1 h2 => exact Bool.and_eq_true_iff.mpr ⟨bne_iff_ne.mpr h1, bne_iff_ne.mpr h2⟩
  | lenBody l _ _ two => exact decide_eq_true two
  | _ => rfl

/-- A cycle performs the operation that its selector vector decodes to. -/
theorem performs_of_decode {s : State} {i : Instr} (h : decode (osv s) = .ok i) :
    Performs s i := by
  have hi : selected s = i := Except.ok.inj ((decode_osv s).symm.trans h)
  exact hi ▸ performs_selected s

end Sys2Proof.Machine

namespace Sys2Proof.Safety

open Sys2Proof.Machine

/-- Settles O1: the vector decodes to the operation that the cycle performs, and a performed
operation is well formed and is what the step runs. -/
theorem decodedOperationRuns : Obligations.DecodedOperationRuns := by
  intro s i h
  have hp : Performs s i := performs_of_decode h
  exact ⟨wellFormed_of_performs hp, step_of_performs hp, rfl⟩

end Sys2Proof.Safety
end

section
/-! PROOF. What a cycle can leave behind, once: its operations joined by their effect on the
registers. The proofs about the output registers and the invariants split along these effects. -/

namespace Sys2Proof.Machine

/-! ## The effects of a cycle -/

/-- The effect of a cycle from `s` that answers a next state. The operations with one effect are
joined: the idle and the halted cycle, the two recognized headers, and the two short lengths, whose
reports agree because adding a length of 0 leaves the sum (R127, R128). -/
inductive Effect (s : State) : State → Prop where
  | reset (rst : s.now.rst = true) : Effect s s.tick.resetRegisters
  | quiet (rst : s.now.rst = false) (none : accepted s = none) : Effect s s.tick.pulseDefaults
  | fail (rst : s.now.rst = false) (none : accepted s = none) :
    Effect s (s.tick.pulseDefaults.enterFatal .transportError)
  | header (v : Bool) (b : Byte) (state : s.state = .awaitHdr) (byte : accepted s = some b)
    (variant : b = Config.hdrPrimary ∧ v = true ∨ b = Config.hdrTrace ∧ v = false) :
    Effect s { s.tick.pulseDefaults.emit .hdr b 0 with var := v, acc := b, state := .readLen }
  | badHeader (b : Byte) (state : s.state = .awaitHdr) (byte : accepted s = some b)
    (h1 : b ≠ Config.hdrPrimary) (h2 : b ≠ Config.hdrTrace) :
    Effect s ((s.tick.pulseDefaults.emit .hdr b 0).enterFatal .desynchronization)
  | shortLength (l : Byte) (state : s.state = .readLen) (byte : accepted s = some l)
    (short : l.toNat < 2) :
    Effect s ({ s.tick.pulseDefaults.emit .len l 1 with len := l, acc := add8 s.acc l }.report
      false true (add8 s.acc l) 0x00 l)
  | bodyLength (l : Byte) (state : s.state = .readLen) (byte : accepted s = some l)
    (two : 2 ≤ l.toNat) :
    Effect s { s.tick.pulseDefaults.emit .len l 1 with
      len := l, cnt := l - 1, acc := add8 s.acc l, state := .readBody }
  | payload (b : Byte) (state : s.state = .readBody) (byte : accepted s = some b)
    (cnt : 2 ≤ s.cnt.toNat) :
    Effect s { s.tick.pulseDefaults.emit .payload b (bodyPosition s) with
      acc := add8 s.acc b, cnt := s.cnt - 1 }
  | checksum (c : Byte) (state : s.state = .readBody) (byte : accepted s = some c)
    (cnt : s.cnt = 1) :
    Effect s ((s.tick.pulseDefaults.emit .chk c (bodyPosition s)).report
      (s.acc == c) false s.acc c s.len)

/-- A length of 0 is reported as a length of 1 would be: adding it leaves the sum (R128). -/
theorem exec_lenZero_zero (s : State) : exec (.lenZero 0x00) s = exec (.lenOne 0x00) s := by
  have hadd : add8 s.acc 0x00 = s.acc := BitVec.add_zero s.acc
  rw [exec_lenZero, exec_lenOne, hadd]

theorem accepted_of_desync {s : State} (h : s.state = .desync) : accepted s = none :=
  accepted_of_not_live (by rw [h]; rfl)

theorem accepted_of_failed {s : State} (h : s.state = .failed) : accepted s = none :=
  accepted_of_not_live (by rw [h]; rfl)

/-- A step that answers a next state has one of the effects. -/
theorem effect_of_step {s t : State} (h : step s = .next t) : Effect s t := by
  obtain ⟨i, hp, he⟩ := step_cases h
  cases hp with
  | reset rst => cases he; exact .reset rst
  | haltDesync rst state => cases he; exact .quiet rst (accepted_of_desync state)
  | haltFailed rst state => cases he; exact .quiet rst (accepted_of_failed state)
  | illegalState => cases he
  | illegalCnt0 => cases he
  | xportFail rst _ _ fail => cases he; exact .fail rst (accepted_of_fail fail)
  | idle rst _ _ _ none => cases he; exact .quiet rst none
  | hdrPrimary state byte => cases he; exact .header true _ state byte (.inl ⟨rfl, rfl⟩)
  | hdrTrace state byte => cases he; exact .header false _ state byte (.inr ⟨rfl, rfl⟩)
  | hdrBad b state byte h1 h2 => cases he; exact .badHeader b state byte h1 h2
  | lenZero state byte =>
    rw [exec_lenZero_zero] at he
    cases he; exact .shortLength 0x00 state byte (by decide)
  | lenOne state byte => cases he; exact .shortLength 0x01 state byte (by decide)
  | lenBody l state byte two => cases he; exact .bodyLength l state byte two
  | bodyChk c state byte cnt => cases he; exact .checksum c state byte cnt
  | bodyData b state byte cnt => cases he; exact .payload b state byte cnt

/-- Outside the two reserved classes of R88 a step answers a next state. -/
theorem exists_step {s : State} (hs : s.state.reserved = false)
    (hc : s.state = .readBody → s.cnt ≠ 0) : ∃ t, step s = .next t := by
  rw [step_eq]
  have hp := performs_selected s
  generalize selected s = i at hp ⊢
  cases hp with
  | illegalState _ state => rw [hs] at state; cases state
  | illegalCnt0 _ state cnt => exact absurd cnt (hc state)
  | _ => exact ⟨_, rfl⟩

/-- A cycle with `rst` takes every register to its reset value (R150). -/
theorem step_of_rst {s : State} (h : s.now.rst = true) : step s = .next s.tick.resetRegisters :=
  step_of_performs (.reset h)

/-- A byte is accepted in one of the three live states. -/
theorem state_of_accepted {s : State} {b : Byte} (h : accepted s = some b) :
    s.state = .awaitHdr ∨ s.state = .readLen ∨ s.state = .readBody := by
  have hl := (of_accepted h).1
  cases hs : s.state <;> simp_all [ProtocolState.live]

end Sys2Proof.Machine

namespace Sys2Proof.Safety

open Sys2Proof.Machine

theorem hasResetValues_resetRegisters (s : State) : HasResetValues s.resetRegisters := by
  constructor <;> rfl

/-- A cycle with `rst` leaves the reset values. -/
theorem hasResetValues_of_rst {s t : State} (h : step s = .next t) (hr : s.now.rst = true) :
    HasResetValues t := by
  cases (step_of_rst hr).symm.trans h
  exact hasResetValues_resetRegisters _

/-! ## The bytes of the current frame -/

section FrameBytes

variable {bytes : List Byte} {s : State} {b : Byte}

theorem frameBytesAfter_of_rst (h : s.now.rst = true) : frameBytesAfter bytes s = [] := by
  simp [frameBytesAfter, accepted_of_rst h, h]

theorem frameBytesAfter_of_none (hr : s.now.rst = false) (h : accepted s = none) :
    frameBytesAfter bytes s = bytes := by
  simp [frameBytesAfter, h, hr]

theorem frameBytesAfter_header (hs : s.state = .awaitHdr) (h : accepted s = some b) :
    frameBytesAfter bytes s = [b] := by
  simp [frameBytesAfter, h, hs]

theorem frameBytesAfter_append (hs : s.state ≠ .awaitHdr) (h : accepted s = some b) :
    frameBytesAfter bytes s = bytes ++ [b] := by
  simp [frameBytesAfter, h, hs]

end FrameBytes

/-! ## The end of a frame -/

section FrameEnd

variable {s t : State} {b : Byte}

theorem frameEnds_of_none (h : accepted s = none) : frameEnds s = false := by
  simp [frameEnds, h]

theorem frameEnds_of_rst (h : s.now.rst = true) : frameEnds s = false :=
  frameEnds_of_none (accepted_of_rst h)

theorem frameEnds_awaitHdr (hs : s.state = .awaitHdr) : frameEnds s = false := by
  cases ha : accepted s <;> simp [frameEnds, ha, hs]

theorem frameEnds_readLen (hs : s.state = .readLen) (h : accepted s = some b) :
    frameEnds s = decide (b.toNat < 2) := by
  simp [frameEnds, h, hs]

theorem frameEnds_readBody (hs : s.state = .readBody) (h : accepted s = some b) :
    frameEnds s = (s.cnt == 1) := by
  simp [frameEnds, h, hs]

/-- A frame ends in one of two protocol states (R78). -/
theorem state_of_frameEnds (he : frameEnds s = true) :
    s.state = .readLen ∨ s.state = .readBody := by
  cases ha : accepted s with
  | none => rw [frameEnds_of_none ha] at he; cases he
  | some b =>
    have hne : s.state ≠ .awaitHdr := fun hs => by rw [frameEnds_awaitHdr hs] at he; cases he
    exact (state_of_accepted ha).resolve_left hne

/-- The pulse of `O_DONE` follows exactly the cycles that end a frame. -/
theorem oDone_eq_frameEnds (h : step s = .next t) : t.oDone = frameEnds s := by
  cases effect_of_step h with
  | reset rst => exact (frameEnds_of_rst rst).symm
  | quiet _ none => exact (frameEnds_of_none none).symm
  | fail _ none => exact (frameEnds_of_none none).symm
  | header _ _ state => exact (frameEnds_awaitHdr state).symm
  | badHeader _ state => exact (frameEnds_awaitHdr state).symm
  | shortLength l state byte short => simp [frameEnds_readLen state byte, short]
  | bodyLength l state byte two =>
    rw [frameEnds_readLen state byte, decide_eq_false (Nat.not_lt.mpr two)]; rfl
  | payload b state byte cnt =>
    rw [frameEnds_readBody state byte, beq_false_of_ne ((two_le_toNat_iff _).mp cnt).2]; rfl
  | checksum c state byte cnt => simp [frameEnds_readBody state byte, cnt]

/-- What the two frame ends of R78 report: a short length, or a checksum byte. -/
theorem frameEnd_cases (h : step s = .next t) (he : frameEnds s = true) :
    (∃ l, s.state = .readLen ∧ accepted s = some l ∧ l.toNat < 2 ∧
      t = { s.tick.pulseDefaults.emit .len l 1 with len := l, acc := add8 s.acc l }.report
        false true (add8 s.acc l) 0x00 l) ∨
    (∃ c, s.state = .readBody ∧ accepted s = some c ∧ s.cnt = 1 ∧
      t = (s.tick.pulseDefaults.emit .chk c (bodyPosition s)).report
        (s.acc == c) false s.acc c s.len) := by
  have hd : t.oDone = true := (oDone_eq_frameEnds h).trans he
  cases effect_of_step h with
  | shortLength l state byte short => exact .inl ⟨l, state, byte, short, rfl⟩
  | checksum c state byte cnt => exact .inr ⟨c, state, byte, cnt, rfl⟩
  | _ => cases hd

/-- After a frame end the next byte is a header (R121). -/
theorem state_after_frameEnd (h : step s = .next t) (he : frameEnds s = true) :
    t.state = .awaitHdr := by
  obtain ⟨l, -, -, -, rfl⟩ | ⟨c, -, -, -, rfl⟩ := frameEnd_cases h he <;> rfl

/-- A frame end loads `O_PRIMARY` with `VAR`. -/
theorem oPrimary_of_frameEnds (h : step s = .next t) (he : frameEnds s = true) :
    t.oPrimary = s.var := by
  obtain ⟨l, -, -, -, rfl⟩ | ⟨c, -, -, -, rfl⟩ := frameEnd_cases h he <;> rfl

/-- Without a frame end and without `rst` the report registers hold (R31 to R35). -/
theorem report_kept (h : step s = .next t) (he : frameEnds s = false) (hr : s.now.rst = false) :
    t.oPrimary = s.oPrimary ∧ t.oOk = s.oOk ∧ t.oShort = s.oShort ∧ t.oCalc = s.oCalc ∧
      t.oExp = s.oExp ∧ t.oLen = s.oLen := by
  have hd : t.oDone = false := (oDone_eq_frameEnds h).trans he
  cases effect_of_step h with
  | reset rst => rw [hr] at rst; cases rst
  | shortLength => cases hd
  | checksum => cases hd
  | _ => exact ⟨rfl, rfl, rfl, rfl, rfl, rfl⟩

end FrameEnd

end Sys2Proof.Safety
end

section
/-! PROOF. The invariants of 10_state.md R43 and what the output registers say of one another: reset
meets them and every effect of a cycle keeps them. -/

namespace Sys2Proof.Safety

open Sys2Proof.Machine

/-! ## The frame invariants -/

section FrameInvariant

variable {bytes : List Byte} {s t : State} {b : Byte}

/-- Before a header the invariants ask only that `CNT` is 0. -/
theorem frameInv_awaitHdr (hs : s.state = .awaitHdr) (hc : s.cnt = 0) : FrameInv bytes s := by
  constructor <;> simp [hs, hc, ProtocolState.reserved]

/-- A terminal state meets the invariants whatever its other registers hold. -/
theorem frameInv_terminal (hs : s.state = .desync ∨ s.state = .failed) : FrameInv bytes s := by
  obtain hs | hs := hs <;> constructor <;> simp [hs, ProtocolState.reserved]

/-- The invariants read only the control registers, which a quiet cycle keeps. -/
theorem FrameInv.pulseDefaults (h : FrameInv bytes s) : FrameInv bytes s.tick.pulseDefaults :=
  ⟨h.notReserved, h.count, h.position, h.sum, h.header, h.headerOnly, h.lengthByte, h.countZero⟩

theorem FrameInv.cnt_ne_zero (h : FrameInv bytes s) (hs : s.state = .readBody) : s.cnt ≠ 0 := by
  intro h0
  have := (h.count hs).2.1
  simp [h0] at this

/-- At the checksum byte the frame's first `L` bytes have been accepted. -/
theorem FrameInv.length_of_last (h : FrameInv bytes s) (hs : s.state = .readBody)
    (hc : s.cnt = 1) : bytes.length = s.len.toNat := by
  have hp := (h.position hs).1
  rw [← hp, bodyPosition, hc, BitVec.add_sub_cancel]

theorem sum8_concat (bytes : List Byte) (b : Byte) :
    sum8 (bytes ++ [b]) = add8 (sum8 bytes) b := by
  simp [sum8_append, add8_eq]

/-- The byte accepted in `READ_BODY` stands one position after the byte before it. -/
theorem position_succ {len cnt : Byte} (h : 2 ≤ cnt.toNat) (hle : cnt.toNat ≤ len.toNat - 1) :
    (len + 1 - (cnt - 1)).toNat = (len + 1 - cnt).toNat + 1 ∧
      (len + 1 - cnt).toNat + 1 ≤ len.toNat := by
  bv_omega

/-- The state after a recognized header (R123, R124). -/
theorem FrameInv.header_step {v : Bool} (h : FrameInv bytes s) (hs : s.state = .awaitHdr)
    (hv : b = Config.hdrPrimary ∧ v = true ∨ b = Config.hdrTrace ∧ v = false) :
    FrameInv [b] { s.tick.pulseDefaults.emit .hdr b 0 with
      var := v, acc := b, state := .readLen } where
  notReserved := rfl
  count := nofun
  position := nofun
  sum _ := by simp
  header _ := by simpa using hv
  headerOnly _ := rfl
  lengthByte := nofun
  countZero _ := h.countZero (.inl hs)

/-- The state after a length of 2 or more (R126). -/
theorem FrameInv.bodyLength_step (h : FrameInv bytes s) (hs : s.state = .readLen)
    (two : 2 ≤ b.toNat) :
    FrameInv (bytes ++ [b]) { s.tick.pulseDefaults.emit .len b 1 with
      len := b, cnt := b - 1, acc := add8 s.acc b, state := .readBody } := by
  have hlen : bytes.length = 1 := h.headerOnly hs
  have hhead := h.header (.inl hs)
  have hcnt : 1 ≤ (b - 1).toNat ∧ (b - 1).toNat ≤ b.toNat - 1 := by bv_omega
  have hpos : (b + 1 - (b - 1)).toNat = 2 := by bv_omega
  obtain ⟨a, rfl⟩ := List.length_eq_one_iff.mp hlen
  exact {
    notReserved := rfl
    count := fun _ => ⟨two, hcnt⟩
    position := fun _ => ⟨hpos, le_rfl, two⟩
    sum := fun _ => by rw [sum8_concat, h.sum (.inl hs)]
    header := fun _ => hhead
    headerOnly := nofun
    lengthByte := fun _ => rfl
    countZero := by simp }

/-- The state after a payload byte (R129). -/
theorem FrameInv.payload_step (h : FrameInv bytes s) (hs : s.state = .readBody)
    (hc : 2 ≤ s.cnt.toNat) :
    FrameInv (bytes ++ [b]) { s.tick.pulseDefaults.emit .payload b (bodyPosition s) with
      acc := add8 s.acc b, cnt := s.cnt - 1 } := by
  obtain ⟨hl, -, hle⟩ := h.count hs
  obtain ⟨hp, hb, -⟩ := h.position hs
  have hcnt : 1 ≤ (s.cnt - 1).toNat ∧ (s.cnt - 1).toNat ≤ s.len.toNat - 1 := by bv_omega
  have hlen : (bytes ++ [b]).length = (bodyPosition s).toNat + 1 := by simp [hp]
  obtain ⟨hnext, hlast⟩ := position_succ hc hle
  exact {
    notReserved := h.notReserved
    count := fun _ => ⟨hl, hcnt⟩
    position := fun _ => hlen ▸ ⟨hnext, by omega, hlast⟩
    sum := fun _ => by rw [sum8_concat, h.sum (.inr hs)]
    header := fun _ => by
      rw [List.head?_append_of_ne_nil _ (List.ne_nil_of_length_pos (by omega))]
      exact h.header (.inr hs)
    headerOnly := fun h' => by simp [hs] at h'
    lengthByte := fun _ => by
      rw [List.getElem?_append_left (by omega)]
      exact h.lengthByte hs
    countZero := fun h' => by simp [hs] at h' }

/-- Every effect of a cycle keeps the frame invariants. -/
theorem FrameInv.of_effect (h : FrameInv bytes s) (he : Effect s t) :
    FrameInv (frameBytesAfter bytes s) t := by
  cases he with
  | reset => exact frameInv_awaitHdr rfl rfl
  | quiet rst none => rw [frameBytesAfter_of_none rst none]; exact h.pulseDefaults
  | fail => exact frameInv_terminal (.inr rfl)
  | header v b state byte variant =>
    rw [frameBytesAfter_header state byte]; exact h.header_step state variant
  | badHeader => exact frameInv_terminal (.inl rfl)
  | shortLength => exact frameInv_awaitHdr rfl rfl
  | bodyLength l state byte two =>
    rw [frameBytesAfter_append (by simp [state]) byte]; exact h.bodyLength_step state two
  | payload b state byte cnt =>
    rw [frameBytesAfter_append (by simp [state]) byte]; exact h.payload_step state cnt
  | checksum => exact frameInv_awaitHdr rfl rfl

end FrameInvariant

/-- Settles O31: legal `STATE` and `CNT` rule out the two faults, and every effect keeps the
invariants. -/
theorem everyStepKeepsTheFrameInvariants : Obligations.EveryStepKeepsTheFrameInvariants := by
  intro bytes s h
  obtain ⟨t, ht⟩ := exists_step h.notReserved h.cnt_ne_zero
  exact ⟨t, ht, h.of_effect (effect_of_step ht)⟩

/-! ## The report invariants -/

section ReportInvariant

variable {s t : State}

/-- Reset values meet the report invariants: nothing is reported or tagged. -/
theorem reportInv_of_hasResetValues (h : HasResetValues s) : ReportInv s := by
  constructor <;> simp [h.state, h.oShort, h.oOk, h.oDone]

/-- Every effect of a cycle keeps the report invariants. What an effect does not load it keeps, so
only the clauses about what it loads need an argument. -/
theorem ReportInv.of_effect (h : ReportInv s) (he : Effect s t) : ReportInv t := by
  obtain ⟨htag, hshort, hok, hdone, hhdr⟩ := h
  cases he with
  | reset => exact reportInv_of_hasResetValues (hasResetValues_resetRegisters _)
  | quiet => exact ⟨htag, hshort, hok, nofun, hhdr⟩
  | fail => exact ⟨nofun, hshort, hok, nofun, nofun⟩
  | header => exact ⟨nofun, hshort, hok, nofun, fun _ => ⟨rfl, rfl, rfl⟩⟩
  | badHeader b _ _ h1 h2 => exact ⟨fun _ => ⟨rfl, rfl, h1, h2⟩, hshort, hok, nofun, nofun⟩
  | shortLength l _ _ short =>
    exact ⟨nofun, fun _ => ⟨rfl, rfl, short⟩, nofun,
      fun _ => ⟨rfl, rfl, rfl, rfl, rfl, rfl, nofun⟩, nofun⟩
  | bodyLength => exact ⟨nofun, hshort, hok, nofun, nofun⟩
  | payload b state => exact ⟨by simp [state], hshort, hok, nofun, by simp [state]⟩
  | checksum c =>
    have hiff : (s.acc == c) = true ↔ s.acc = c := beq_iff_eq
    exact ⟨nofun, nofun, fun h => ⟨rfl, hiff.mp h⟩,
      fun _ => ⟨rfl, rfl, rfl, rfl, rfl, rfl, fun _ => hiff⟩, nofun⟩

end ReportInvariant

/-- Settles O32: a step has one of the effects, and each keeps the report invariants. -/
theorem everyStepKeepsTheReportInvariants : Obligations.EveryStepKeepsTheReportInvariants :=
  fun _ _ h ht => h.of_effect (effect_of_step ht)

/-! ## Reset, and runs from it -/

/-- Settles O30: reset awaits a header with `CNT` 0, and holds the reset values. -/
theorem resetMeetsTheInvariants : Obligations.ResetMeetsTheInvariants := fun xs n =>
  ⟨frameInv_awaitHdr rfl rfl,
    reportInv_of_hasResetValues
      (hasResetValues_resetRegisters { State.reset with inputs := xs, cycle := n })⟩

/-- Settles O34, by the induction over runs: reset meets the frame invariants for no bytes, and
from a state that meets them for some bytes a step answers one that does. -/
theorem runsFromResetNeverStop : Obligations.RunsFromResetNeverStop := by
  intro xs n
  have hstep : ∀ s, (∃ bytes, FrameInv bytes s) →
      ∃ t, step s = .next t ∧ ∃ bytes, FrameInv bytes t := by
    rintro s ⟨bytes, h⟩
    obtain ⟨t, ht, hinv⟩ := everyStepKeepsTheFrameInvariants bytes s h
    exact ⟨t, ht, _, hinv⟩
  obtain ⟨t, ht, -⟩ := run_induction hstep n _ ⟨[], (resetMeetsTheInvariants xs 0).1⟩
  exact ⟨t, ht⟩

end Sys2Proof.Safety
end

section
/-! PROOF. The output registers and the status outputs of 10_state.md: reset, the frame report, the
byte tag, `O_PERSIST` and `O_STATE`. -/

namespace Sys2Proof.Safety

open Sys2Proof.Machine

/-! ## Reset -/

theorem inReady_of_live {s : State} (hl : s.state.live = true) (hr : s.now.rst = false)
    (hf : s.now.xportFail = false) (hk : s.now.sinkHold = false) : inReady s = true := by
  simp [inReady, hl, hr, hf, hk]

/-- Settles O28: a step with `rst` is the reset of every register, and the outputs are functions of
the registers that then hold their reset values. -/
theorem resetLeavesTheListedValues : Obligations.ResetLeavesTheListedValues := by
  refine ⟨hasResetValues_resetRegisters State.reset, fun s hr => ?_⟩
  exact ⟨s.tick.resetRegisters, step_of_rst hr, hasResetValues_resetRegisters _,
    rfl, rfl, rfl, rfl, rfl, inReady_of_live rfl⟩

/-! ## The frame report -/

/-- Settles O40: the pulse is the frame end of the cycle before; after it the machine awaits a
header, and a cycle that awaits a header ends no frame. -/
theorem donePulseMarksTheFrameEnd : Obligations.DonePulseMarksTheFrameEnd := by
  refine ⟨fun s t h => by rw [oDone_eq_frameEnds h], ?_, rfl⟩
  rintro s t u h h' ⟨ht, hu⟩
  rw [oDone_eq_frameEnds h] at ht
  rw [oDone_eq_frameEnds h', frameEnds_awaitHdr (state_after_frameEnd h ht)] at hu
  cases hu

section Report

variable {bytes : List Byte} {s t : State} {c : Byte}

/-- What a frame end loads, by the protocol state that it ends in. -/
theorem report_of_frameEnds (h : step s = .next t) (he : frameEnds s = true)
    (ha : accepted s = some c) :
    t.oPrimary = s.var ∧
    (s.state = .readBody →
      t.oOk = (s.acc == c) ∧ t.oShort = false ∧ t.oCalc = s.acc ∧ t.oExp = c) ∧
    (s.state = .readLen →
      t.oOk = false ∧ t.oShort = true ∧ t.oCalc = add8 s.acc c ∧ t.oExp = 0 ∧ c.toNat < 2) := by
  obtain ⟨l, state, byte, short, rfl⟩ | ⟨d, state, byte, -, rfl⟩ := frameEnd_cases h he
  · cases ha.symm.trans byte
    exact ⟨rfl, by simp [state], fun _ => ⟨rfl, rfl, rfl, rfl, short⟩⟩
  · cases ha.symm.trans byte
    exact ⟨rfl, fun _ => ⟨rfl, rfl, rfl, rfl⟩, by simp [state]⟩

/-- In a frame `VAR` says which of the two headers came first. -/
theorem FrameInv.var_iff (h : FrameInv bytes s) (hs : s.state = .readLen ∨ s.state = .readBody) :
    (s.var = true ↔ bytes.head? = some Config.hdrPrimary) ∧
      (s.var = false ↔ bytes.head? = some Config.hdrTrace) := by
  have hne : Config.hdrPrimary ≠ Config.hdrTrace := by decide
  obtain ⟨hh, hv⟩ | ⟨hh, hv⟩ := h.header hs
  · simp [hh, hv, hne]
  · simp [hh, hv, hne.symm]

/-- In states that meet the frame invariants the sum reported is that of the checked bytes: all but
the checksum byte, which a short frame does not have. -/
theorem FrameInv.oCalc_of_frameEnds (hinv : FrameInv bytes s) (h : step s = .next t)
    (he : frameEnds s = true) :
    t.oCalc = sum8 (if t.oShort = true then frameBytesAfter bytes s else bytes) := by
  obtain ⟨l, state, byte, -, rfl⟩ | ⟨c, state, -, -, rfl⟩ := frameEnd_cases h he
  · simp [frameBytesAfter_append (by simp [state]) byte, sum8_concat, hinv.sum (.inl state)]
  · simpa using hinv.sum (.inr state)

end Report

/-- Settles O41: the two frame ends load the report, every other cycle but a reset keeps it, and the
frame invariants say what `VAR` and `ACC` hold. -/
theorem reportRegistersChangeOnlyAtAFrameEnd :
    Obligations.ReportRegistersChangeOnlyAtAFrameEnd := by
  refine ⟨fun s t c => report_of_frameEnds, fun s t h he hr => ?_, fun s t h hr => ?_,
    fun bytes s t hinv h he => ?_⟩
  · obtain ⟨hprimary, hok, hshort, hcalc, hexp, -⟩ := report_kept h he hr
    exact ⟨hprimary, hok, hshort, hcalc, hexp⟩
  · have hreset := hasResetValues_of_rst h hr
    exact ⟨hreset.oPrimary, hreset.oOk, hreset.oShort, hreset.oCalc, hreset.oExp⟩
  · obtain ⟨hprimary, htrace⟩ := hinv.var_iff (state_of_frameEnds he)
    rw [oPrimary_of_frameEnds h he]
    exact ⟨hprimary, htrace, hinv.oCalc_of_frameEnds h he⟩

/-! ## The declared length -/

/-- What a consumer derives from the report of a frame that ends in a state with the frame
invariants (R35). -/
theorem FrameInv.payloadCount_of_frameEnds {bytes : List Byte} {s t : State}
    (hinv : FrameInv bytes s) (h : step s = .next t) (he : frameEnds s = true) :
    (frameBytesAfter bytes s)[1]? = some t.oLen ∧
    payloadCount t = (frameBytesAfter bytes s).length - 3 ∧
    (t.oShort = false → payloadCount t = t.oLen.toNat - 2) ∧
    (t.oShort = true → payloadCount t = 0) := by
  obtain ⟨l, state, byte, -, rfl⟩ | ⟨c, state, byte, cnt, rfl⟩ := frameEnd_cases h he <;>
    rw [frameBytesAfter_append (by simp [state]) byte]
  · have hlen : bytes.length = 1 := hinv.headerOnly state
    obtain ⟨a, rfl⟩ := List.length_eq_one_iff.mp hlen
    exact ⟨rfl, rfl, nofun, fun _ => rfl⟩
  · have hlen : bytes.length = s.len.toNat := hinv.length_of_last state cnt
    have hsecond : bytes[1]? = some s.len := hinv.lengthByte state
    refine ⟨?_, ?_, fun _ => rfl, nofun⟩
    · rw [List.getElem?_append_left (List.getElem?_eq_some_iff.mp hsecond).1]
      exact hsecond
    · simp [payloadCount, hlen]

/-- Settles O42: the two frame ends under the frame invariants, and the report registers' hold and
reset for `O_LEN`. -/
theorem reportedLengthGivesThePayloadCount : Obligations.ReportedLengthGivesThePayloadCount := by
  refine ⟨fun bytes s t => FrameInv.payloadCount_of_frameEnds, fun s t h he hr => ?_,
    fun s t h hr => (hasResetValues_of_rst h hr).oLen, rfl⟩
  obtain ⟨-, -, -, -, -, hlen⟩ := report_kept h he hr
  exact hlen

/-! ## The byte tag -/

section ByteTag

variable {bytes : List Byte} {s t : State} {b : Byte}

theorem oBvalid_eq_isSome (h : step s = .next t) : t.oBvalid = (accepted s).isSome := by
  cases effect_of_step h with
  | reset rst => rw [accepted_of_rst rst]; rfl
  | quiet _ none => rw [none]; rfl
  | fail _ none => rw [none]; rfl
  | header _ _ _ byte => rw [byte]; rfl
  | badHeader _ _ byte => rw [byte]; rfl
  | shortLength _ _ byte => rw [byte]; rfl
  | bodyLength _ _ byte => rw [byte]; rfl
  | payload _ _ byte => rw [byte]; rfl
  | checksum _ _ byte => rw [byte]; rfl

/-- The tag of an accepted byte, by the protocol state that accepts it (R36, R37). -/
theorem tag_of_accepted (h : step s = .next t) (ha : accepted s = some b) : t.oByte = b ∧
    (s.state = .awaitHdr → t.oRole = .hdr ∧ t.oBidx = 0) ∧
    (s.state = .readLen → t.oRole = .len ∧ t.oBidx = 1) ∧
    (s.state = .readBody → t.oRole = (if s.cnt = 1 then .chk else .payload) ∧
      t.oBidx = s.len + 1 - s.cnt) := by
  cases effect_of_step h with
  | reset rst => rw [accepted_of_rst rst] at ha; cases ha
  | quiet _ none => rw [none] at ha; cases ha
  | fail _ none => rw [none] at ha; cases ha
  | header v b' state byte =>
    cases ha.symm.trans byte
    exact ⟨rfl, fun _ => ⟨rfl, rfl⟩, by simp [state], by simp [state]⟩
  | badHeader b' state byte =>
    cases ha.symm.trans byte
    exact ⟨rfl, fun _ => ⟨rfl, rfl⟩, by simp [state], by simp [state]⟩
  | shortLength l state byte =>
    cases ha.symm.trans byte
    exact ⟨rfl, by simp [state], fun _ => ⟨rfl, rfl⟩, by simp [state]⟩
  | bodyLength l state byte =>
    cases ha.symm.trans byte
    exact ⟨rfl, by simp [state], fun _ => ⟨rfl, rfl⟩, by simp [state]⟩
  | payload b' state byte cnt =>
    cases ha.symm.trans byte
    have hne : s.cnt ≠ 1 := ((two_le_toNat_iff _).mp cnt).2
    exact ⟨rfl, by simp [state], by simp [state], fun _ => ⟨(if_neg hne).symm, rfl⟩⟩
  | checksum c state byte cnt =>
    cases ha.symm.trans byte
    exact ⟨rfl, by simp [state], by simp [state], fun _ => ⟨(if_pos cnt).symm, rfl⟩⟩

/-- Under the frame invariants the position counts the frame's bytes before the accepted one. -/
theorem FrameInv.oBidx_of_accepted (hinv : FrameInv bytes s) (h : step s = .next t)
    (ha : accepted s = some b) : t.oBidx.toNat + 1 = (frameBytesAfter bytes s).length := by
  obtain ⟨-, hhdr, hlen, hbody⟩ := tag_of_accepted h ha
  obtain hs | hs | hs := state_of_accepted ha
  · rw [frameBytesAfter_header hs ha, (hhdr hs).2]; rfl
  · rw [frameBytesAfter_append (by simp [hs]) ha, List.length_append, hinv.headerOnly hs,
      (hlen hs).2]
    rfl
  · rw [frameBytesAfter_append (by simp [hs]) ha, List.length_append, ← (hinv.position hs).1,
      (hbody hs).2]
    rfl

/-- Without an accepted byte and without `rst` the tag holds. -/
theorem tag_kept (h : step s = .next t) (ha : accepted s = none) (hr : s.now.rst = false) :
    t.oByte = s.oByte ∧ t.oRole = s.oRole ∧ t.oBidx = s.oBidx := by
  have hv : t.oBvalid = false := by rw [oBvalid_eq_isSome h, ha]; rfl
  cases effect_of_step h with
  | reset rst => rw [hr] at rst; cases rst
  | quiet => exact ⟨rfl, rfl, rfl⟩
  | fail => exact ⟨rfl, rfl, rfl⟩
  | _ => cases hv

end ByteTag

/-- Settles O43: an accepted byte is tagged by the protocol state that accepts it, every other cycle
but a reset keeps the tag, and the frame invariants give the position its meaning. -/
theorem byteTagsReportEachAcceptedByte : Obligations.ByteTagsReportEachAcceptedByte := by
  refine ⟨fun s t => oBvalid_eq_isSome, fun s t b => tag_of_accepted,
    fun bytes s t b => FrameInv.oBidx_of_accepted, fun s t => tag_kept, fun s t h hr => ?_,
    rfl, rfl, rfl, rfl⟩
  have hreset := hasResetValues_of_rst h hr
  exact ⟨hreset.oBvalid, hreset.oByte, by rw [hreset.oRole]; rfl, hreset.oBidx⟩

/-! ## The persist output -/

/-- After a step `O_PERSIST` says that a frame ended with `VAR` 1, whatever its report. -/
theorem oPersist_iff {s t : State} (h : step s = .next t) :
    oPersist t = true ↔ frameEnds s = true ∧ s.var = true := by
  rw [oPersist, Bool.and_eq_true, oDone_eq_frameEnds h]
  exact and_congr_right fun he => by rw [oPrimary_of_frameEnds h he]

/-- Settles O44: `O_PERSIST` after a frame end is its `VAR`, which the frame invariants tie to the
header. -/
theorem persistIsExactlyAPrimaryFrameEnd : Obligations.PersistIsExactlyAPrimaryFrameEnd := by
  refine ⟨fun _ => rfl, fun s t => oPersist_iff, fun bytes s t hinv h he => ?_⟩
  obtain ⟨hprimary, htrace⟩ := hinv.var_iff (state_of_frameEnds he)
  refine ⟨fun hh => (oPersist_iff h).mpr ⟨he, hprimary.mpr hh⟩, fun hh => ?_⟩
  rw [Bool.eq_false_iff, Ne, oPersist_iff h, htrace.mpr hh]
  simp

/-! ## The status outputs -/

theorem code_eq_three_iff (p : ProtocolState) : p.code = 3 ↔ p = .desync := by
  cases p <;> decide

theorem code_eq_four_iff (p : ProtocolState) : p.code = 4 ↔ p = .failed := by
  cases p <;> decide

/-- Settles O46: the codes of R22, of which 3 and 4 are `DESYNC`'s and `FAILED`'s alone. -/
theorem statusOutputsShowTheStateCode : Obligations.StatusOutputsShowTheStateCode := by
  refine ⟨fun s => ?_, fun s => ⟨?_, ?_⟩⟩
  · rw [oState]
    cases s.state <;> rfl
  · rw [oDesync, oState, beq_iff_eq, code_eq_three_iff]
  · rw [oFailed, oState, beq_iff_eq, code_eq_four_iff]

end Sys2Proof.Safety
end

section
/-! PROOF. The byte stream of 20_memory.md: the handshake, the operand, `sink_hold`, and the first
byte after a frame. -/

namespace Sys2Proof.Machine

/-! ## The handshake -/

/-- R52's handshake: the accepted byte is the offered one, and both sides agree to it. -/
theorem accepted_eq_some_iff {s : State} {b : Byte} : accepted s = some b ↔
    s.now.inValid = true ∧ inReady s = true ∧ s.now.inByte = b := by
  simp [accepted, and_assoc]

theorem accepted_eq_none_iff {s : State} :
    accepted s = none ↔ s.now.inValid = false ∨ inReady s = false := by
  cases hv : s.now.inValid <;> simp [accepted, hv]

theorem inReady_of_sinkHold {s : State} (h : s.now.sinkHold = true) : inReady s = false := by
  simp [inReady, h]

theorem accepted_of_sinkHold {s : State} (h : s.now.sinkHold = true) : accepted s = none :=
  accepted_eq_none_iff.mpr (.inr (inReady_of_sinkHold h))

theorem now_of_inputs {s : State} {x : Inputs} {later : List Inputs} (h : s.inputs = x :: later) :
    s.now = x := by
  rw [State.now, h]

/-- Of this cycle's ports, a step sees `rst`, `xport_fail` and the accepted byte alone. -/
theorem step_congr {s u : State} (htick : s.tick = u.tick) (hrst : s.now.rst = u.now.rst)
    (hfail : s.now.xportFail = u.now.xportFail) (hacc : accepted s = accepted u) :
    step s = step u := by
  have hstate : s.state = u.state := by simpa using congrArg State.state htick
  have hcnt : s.cnt = u.cnt := by simpa using congrArg State.cnt htick
  have hsel : selected s = selected u := by
    rw [selected, selected, hstate, hcnt, hrst, hfail, hacc]
  rw [step_eq, step_eq, hsel, htick]

/-- States that differ in this cycle's `in_byte` alone step alike when no byte is accepted (R52). -/
theorem step_eq_of_unaccepted {s u : State} {b : Byte} (htick : u.tick = s.tick)
    (hnow : u.now = { s.now with inByte := b }) (ha : accepted s = none) : step u = step s := by
  have hstate : u.state = s.state := by simpa using congrArg State.state htick
  have hready : inReady u = inReady s := by rw [inReady, inReady, hstate, hnow]
  have hau : accepted u = none := by
    rw [accepted_eq_none_iff] at ha ⊢
    rwa [hready, hnow]
  exact step_congr htick (by rw [hnow]) (by rw [hnow]) (hau.trans ha.symm)

/-! ## The operand -/

theorem accepted_of_reserved {s : State} (h : s.state.reserved = true) : accepted s = none := by
  refine accepted_of_not_live (Bool.eq_false_iff.mpr fun hl => ?_)
  rw [reserved_eq_false_of_live hl] at h
  cases h

/-- The table and the handshake agree on the byte consumed (R82), but in R88's class with `CNT` 0,
where a byte can be accepted and `ILLEGAL_CNT0` has no operand. -/
theorem operand_of_performs {s : State} {i : Instr} (hp : Performs s i) (hi : i ≠ .illegalCnt0) :
    i.operand = accepted s := by
  cases hp with
  | reset rst => exact (accepted_of_rst rst).symm
  | haltDesync _ state => exact (accepted_of_desync state).symm
  | haltFailed _ state => exact (accepted_of_failed state).symm
  | illegalState _ state => exact (accepted_of_reserved state).symm
  | illegalCnt0 => exact absurd rfl hi
  | xportFail _ _ _ fail => exact (accepted_of_fail fail).symm
  | idle _ _ _ _ none => exact none.symm
  | hdrPrimary _ byte => exact byte.symm
  | hdrTrace _ byte => exact byte.symm
  | hdrBad _ _ byte => exact byte.symm
  | lenZero _ byte => exact byte.symm
  | lenOne _ byte => exact byte.symm
  | lenBody _ _ byte => exact byte.symm
  | bodyChk _ _ byte => exact byte.symm
  | bodyData _ _ byte => exact byte.symm

/-- A byte accepted in `AWAIT_HDR` performs the header operation of its value (R123 to R125). -/
theorem header_of_performs {s : State} {b : Byte} {i : Instr} (hs : s.state = .awaitHdr)
    (ha : accepted s = some b) (hp : Performs s i) :
    i = .hdrPrimary b ∨ i = .hdrTrace b ∨ i = .hdrBad b := by
  by_cases h1 : b = 0x72
  · subst h1
    exact .inl (performs_unique hp (.hdrPrimary hs ha))
  by_cases h2 : b = 0x1C
  · subst h2
    exact .inr (.inl (performs_unique hp (.hdrTrace hs ha)))
  exact .inr (.inr (performs_unique hp (.hdrBad b hs ha h1 h2)))

end Sys2Proof.Machine

namespace Sys2Proof.Safety

open Sys2Proof.Machine

/-- Settles O10: the handshake is the definition of acceptance, and an unaccepted byte reaches
neither the operation selected nor the state it runs on. -/
theorem acceptanceIsTheHandshakeAndIgnoresOtherBytes :
    Obligations.AcceptanceIsTheHandshakeAndIgnoresOtherBytes := by
  refine ⟨fun s b => accepted_eq_some_iff, fun s x later b hin hoff => ?_⟩
  have hx : s.now = x := now_of_inputs hin
  have ha : accepted s = none := accepted_eq_none_iff.mpr (by rwa [hx])
  refine ⟨ha, step_eq_of_unaccepted (b := b) ?_ ?_ ha⟩
  · rw [State.tick, State.tick, hin]
    rfl
  · rw [hx]
    rfl

/-- Settles O12: the operation that the vector decodes to is the one performed, whose operand is the
accepted byte. -/
theorem acceptedByteIsTheOperand : Obligations.AcceptedByteIsTheOperand := fun _ _ h =>
  operand_of_performs (performs_of_decode h)

/-- Settles O47: without an accepted byte no frame ends and no byte is tagged, so the report and the
tag hold; a live cycle then performs `IDLE`. -/
theorem sinkHoldAcceptsNothingAndHoldsTheOutputs :
    Obligations.SinkHoldAcceptsNothingAndHoldsTheOutputs := by
  refine ⟨fun s hk => ⟨inReady_of_sinkHold hk, accepted_of_sinkHold hk⟩,
    fun s t hk hr h => ?_, fun s hk hr hf hl hc => ?_⟩
  · have ha : accepted s = none := accepted_of_sinkHold hk
    have he : frameEnds s = false := frameEnds_of_none ha
    have hdone : t.oDone = false := (oDone_eq_frameEnds h).trans he
    have hvalid : t.oBvalid = false := by rw [oBvalid_eq_isSome h, ha]; rfl
    obtain ⟨hprimary, hok, hshort, hcalc, hexp, hlen⟩ := report_kept h he hr
    exact ⟨hdone, hvalid, hprimary, hok, hshort, hcalc, hexp, hlen, tag_kept h ha hr⟩
  · have hcnt : s.state = .readBody → s.cnt ≠ 0 := fun hs h0 => hc ⟨hs, h0⟩
    exact step_of_performs (.idle hr hl hcnt hf (accepted_of_sinkHold hk))

/-- Settles O48: a frame end and a reset both leave `AWAIT_HDR`, which is live and takes the next
byte as a header. -/
theorem nextByteAfterAFrameIsAHeader : Obligations.NextByteAfterAFrameIsAHeader := by
  intro s t h hend
  have ht : t.state = .awaitHdr :=
    hend.elim (state_after_frameEnd h) fun hr => (hasResetValues_of_rst h hr).state
  exact ⟨ht, inReady_of_live (by rw [ht]; rfl),
    fun b i ha hd => header_of_performs ht ha (performs_of_decode hd)⟩

end Sys2Proof.Safety
end

section
/-! PROOF. The decoder of 30_encoding.md: the fields of a packed vector, the operation table, and
decoding what `encode` writes. -/

namespace Sys2Proof

/-! ## The fields of a packed vector (R80) -/

section Fields

variable (z rst fail v : Bool) (s : BitVec 3) (last : Bool) (b : Byte)

theorem getLsbD_packOsv {i : Nat} (hi : i < 16) : (packOsv z rst fail v s last b).getLsbD i =
      if i < 8 then b.getLsbD i else if i = 8 then last else if i < 12 then s.getLsbD (i - 9)
      else if i = 12 then v else if i = 13 then fail else if i = 14 then rst else z :=
  (BitVec.getLsbD_eq_getElem hi).trans (getElem_packOsv z rst fail v s last b i hi)

@[simp] theorem osvZ_packOsv : osvZ (packOsv z rst fail v s last b) = z :=
  getLsbD_packOsv z rst fail v s last b (by omega)

@[simp] theorem osvRst_packOsv : osvRst (packOsv z rst fail v s last b) = rst :=
  getLsbD_packOsv z rst fail v s last b (by omega)

@[simp] theorem osvFail_packOsv : osvFail (packOsv z rst fail v s last b) = fail :=
  getLsbD_packOsv z rst fail v s last b (by omega)

@[simp] theorem osvV_packOsv : osvV (packOsv z rst fail v s last b) = v :=
  getLsbD_packOsv z rst fail v s last b (by omega)

@[simp] theorem osvLast_packOsv : osvLast (packOsv z rst fail v s last b) = last :=
  getLsbD_packOsv z rst fail v s last b (by omega)

@[simp] theorem osvS_packOsv : osvS (packOsv z rst fail v s last b) = s := by
  ext i hi
  have h : ¬ 9 + i < 8 ∧ 9 + i ≠ 8 ∧ 9 + i < 12 := by omega
  rw [osvS, BitVec.getElem_extractLsb', getLsbD_packOsv _ _ _ _ _ _ _ (by omega), if_neg h.1,
    if_neg h.2.1, if_pos h.2.2, Nat.add_sub_cancel_left, BitVec.getLsbD_eq_getElem]

end Fields

/-! ## Decoding an encoding -/

/-- A well-formed operand is one that the row's own byte test admits and no earlier row takes. -/
theorem decode_encode {i : Instr} (h : i.wellFormed = true) : decode (encode i) = .ok i := by
  cases i with
  | hdrPrimary b =>
    cases eq_of_beq h
    exact decode_packOsv ..
  | hdrTrace b =>
    cases eq_of_beq h
    exact decode_packOsv ..
  | lenZero l =>
    cases eq_of_beq h
    exact decode_packOsv ..
  | lenOne l =>
    cases eq_of_beq h
    exact decode_packOsv ..
  | hdrBad b =>
    obtain ⟨h1, h2⟩ := Bool.and_eq_true_iff.mp h
    have h1 : b ≠ 0x72 := bne_iff_ne.mp h1
    have h2 : b ≠ 0x1C := bne_iff_ne.mp h2
    exact (decode_packOsv ..).trans (congrArg Except.ok ((if_neg h1).trans (if_neg h2)))
  | lenBody l =>
    obtain ⟨h0, h1⟩ := (Machine.two_le_toNat_iff l).mp (of_decide_eq_true h)
    exact (decode_packOsv ..).trans (congrArg Except.ok ((if_neg h0).trans (if_neg h1)))
  | _ => exact decode_packOsv ..

/-- The first row that selects the vector gives the operation (R83). -/
theorem decode_eq_ok_iff {w : Osv} {i : Instr} : decode w = .ok i ↔
    ∃ r, opTable.find? (fun r => r.selects w) = some r ∧ i = r.operation (osvByte w) := by
  rw [decode]
  cases opTable.find? (fun r => r.selects w) <;> simp [eq_comm]

/-- The table is total (R85). -/
theorem exists_decode (w : Osv) : ∃ i, decode w = .ok i :=
  ⟨_, packOsv_fields w ▸ decode_packOsv ..⟩

/-- `LAST` is tested by the body rows 14 and 15 alone, and both ask for `Z` = 0. -/
theorem decode_packOsv_of_z (rst fail v : Bool) (s : BitVec 3) (last last' : Bool) (b : Byte) :
    decode (packOsv true rst fail v s last b) = decode (packOsv true rst fail v s last' b) := by
  have hs : s = 2 ∨ s = 0 ∨ s = 1 ∨ s = 3 ∨ 4 ≤ s.toNat := by revert s; decide
  rw [decode_packOsv, decode_packOsv]
  obtain rfl | rfl | rfl | rfl | h4 := hs <;> simp [*]

end Sys2Proof

namespace Sys2Proof.Machine

/-- A placed word decodes to what the word itself decodes to: `CNT` can give every `Z` and `LAST` but
both, and with `Z` the value of `LAST` does not matter (log entry 3). -/
theorem decode_osv_placeSelector (s : State) (w : Osv) :
    decode (osv (s.placeSelector w)) = decode w := by
  rw [osv_placeSelector]
  conv_rhs => rw [← packOsv_fields w]
  cases osvZ w
  · rw [countForSelector_one]
  · exact decode_packOsv_of_z ..

/-- Any word is run from some state, so what holds of every operation performed holds of every
operation decoded. -/
theorem exists_performs_of_decode {w : Osv} {i : Instr} (h : decode w = .ok i) :
    ∃ s : State, Performs s i ∧ s.now.inByte = osvByte w := by
  refine ⟨State.reset.placeSelector w, performs_of_decode ?_, rfl⟩
  rw [decode_osv_placeSelector, h]

/-- The operand of an operation performed is the byte on the port (R82). -/
theorem inByte_of_performs {s : State} {i : Instr} {b : Byte} (hp : Performs s i)
    (hb : i.operand = some b) : s.now.inByte = b := by
  have hi : i ≠ .illegalCnt0 := fun h => by rw [h] at hb; cases hb
  obtain ⟨-, -, -, -, -, hbyte⟩ := of_accepted ((operand_of_performs hp hi).symm.trans hb)
  exact hbyte

end Sys2Proof.Machine

namespace Sys2Proof.Safety

open Sys2Proof.Machine

/-- Settles O7: the fields that `encode` writes, read from the table's first row down. -/
theorem decodeOfEncodeIsTheOperation : Obligations.DecodeOfEncodeIsTheOperation :=
  fun _ => decode_encode

/-- Settles O8: a decoded operation is performed by the state its vector is placed in, so it is well
formed and its operand is that state's `in_byte`. -/
theorem decodedOperationsAreWellFormed : Obligations.DecodedOperationsAreWellFormed := by
  intro w i h
  obtain ⟨s, hp, hbyte⟩ := exists_performs_of_decode h
  have hwf : i.wellFormed = true := wellFormed_of_performs hp
  exact ⟨hwf, fun b hb => (inByte_of_performs hp hb).symm.trans hbyte, decode_encode hwf⟩

/-- Settles O5: `find?` answers the first row that selects the vector. -/
theorem firstMatchingRowIsSelected : Obligations.FirstMatchingRowIsSelected := by
  intro w i
  simp only [decode_eq_ok_iff, List.find?_eq_some_iff_append, OpRow.selects, beq_iff_eq,
    Bool.not_eq_true', beq_eq_false_iff_ne]
  constructor
  · rintro ⟨r, ⟨hr, earlier, later, htable, hno⟩, hi⟩
    exact ⟨earlier, r, later, htable, hr, hno, hi⟩
  · rintro ⟨earlier, r, later, htable, hr, hno, hi⟩
    exact ⟨r, ⟨hr, earlier, later, htable, hno⟩, hi⟩

/-- Settles O9: each word evaluated through the table. -/
theorem selectorWordsOfTheVectorsDecode : Obligations.SelectorWordsOfTheVectorsDecode := by
  unfold Obligations.SelectorWordsOfTheVectorsDecode
  decide

/-- Settles O3: the vector is packed from the fields, which can be read back, and the operation of a
cycle is what its vector decodes to. -/
theorem selectorVectorBitsAndNothingElseSelect :
    Obligations.SelectorVectorBitsAndNothingElseSelect := by
  refine ⟨fun s => ⟨osvZ_packOsv .., osvRst_packOsv .., osvFail_packOsv .., osvV_packOsv ..,
    osvS_packOsv .., osvLast_packOsv .., osvByte_packOsv ..⟩, fun s u h => ?_⟩
  have hsel : selected s = selected u := by
    have hd := congrArg decode h
    rw [decode_osv, decode_osv] at hd
    exact Except.ok.inj hd
  exact ⟨selected s, step_eq s, hsel ▸ step_eq u⟩

/-- Settles O2: placing a word sets `STATE`, `CNT` and this cycle's ports so that the vector decodes
as the word does. -/
theorem placedWordIsTheWordRun : Obligations.PlacedWordIsTheWordRun := by
  intro s w hw
  have hword : w % 2 ^ 16 = w := Nat.mod_eq_of_lt hw
  have hdecode : decode (osv (s.withFetchWord 16 w)) = decode (BitVec.ofNat 16 w) := by
    rw [State.withFetchWord, hword, decode_osv_placeSelector]
  refine ⟨hdecode, ⟨selected (s.withFetchWord 16 w), ?_, step_eq _⟩, _, _, _, rfl⟩
  rw [decodeTableWord, if_pos le_rfl, hword, ← hdecode, decode_osv]
  rfl

/-- Settles O4: the table's columns as written, and the decoder on the vector's fields, whose state
codes are told apart state by state. -/
theorem operationTableRowsSelectAsListed : Obligations.OperationTableRowsSelectAsListed := by
  refine ⟨rfl, rfl, fun s => ?_⟩
  simp only [osv, decode_packOsv, Bool.and_eq_false_iff, Bool.not_eq_false']
  cases s.state <;> simp [ProtocolState.code, ProtocolState.reserved]

/-- Settles O11: `Z` and `LAST` are fields of the vector, and `V` without `FAIL` and `RST` is the
handshake of a live state. -/
theorem selectorFieldsMeanAcceptance : Obligations.SelectorFieldsMeanAcceptance := by
  have hz : ∀ s, osvZ (osv s) = (s.cnt == 0) := fun s => osvZ_packOsv ..
  have hlast : ∀ s, osvLast (osv s) = (s.cnt == 1) := fun s => osvLast_packOsv ..
  refine ⟨fun s => ⟨hz s, hlast s⟩, fun s => ?_, fun w _ _ => exists_decode w,
    fun s hl hv hf hr => ?_⟩
  · rw [hz, hlast, beq_iff_eq, beq_iff_eq]
    rintro ⟨h0, h1⟩
    cases h0.symm.trans h1
  · rw [osv, osvV_packOsv, Bool.and_eq_true, Bool.not_eq_true'] at hv
    rw [osv, osvFail_packOsv] at hf
    rw [osv, osvRst_packOsv] at hr
    obtain ⟨hvalid, hhold⟩ := hv
    have hready : inReady s = true := inReady_of_live hl hr hf hhold
    exact ⟨hready, hvalid, accepted_eq_some_iff.mpr ⟨hvalid, hready, rfl⟩⟩

end Sys2Proof.Safety
end

section
/-! PROOF. The stops of a step: the two reserved classes of 30_encoding.md R88. -/

namespace Sys2Proof.Machine

/-- Only the two reserved operations fault. -/
theorem exec_eq_fault_iff {i : Instr} {s : State} {f : Fault} : exec i s = .fault f ↔
    i = .illegalState ∧ f = .illegalState ∨ i = .illegalCnt0 ∧ f = .illegalCount := by
  cases i <;> simp [eq_comm]

theorem exec_ne_refused (i : Instr) (s : State) (r : Refusal) : exec i s ≠ .refused r := by
  cases i <;> simp

/-- A cycle selects the operation it performs. -/
theorem selected_eq_iff {s : State} {i : Instr} : selected s = i ↔ Performs s i :=
  ⟨fun h => h ▸ performs_selected s, performs_unique (performs_selected s)⟩

theorem performs_illegalState_iff {s : State} :
    Performs s .illegalState ↔ s.now.rst = false ∧ s.state.reserved = true :=
  ⟨fun | .illegalState rst state => ⟨rst, state⟩, fun ⟨rst, state⟩ => .illegalState rst state⟩

theorem performs_illegalCnt0_iff {s : State} :
    Performs s .illegalCnt0 ↔ s.now.rst = false ∧ s.state = .readBody ∧ s.cnt = 0 :=
  ⟨fun | .illegalCnt0 rst state cnt => ⟨rst, state, cnt⟩,
    fun ⟨rst, state, cnt⟩ => .illegalCnt0 rst state cnt⟩

end Sys2Proof.Machine

namespace Sys2Proof.Safety

open Sys2Proof.Machine

/-- Settles O33: a fault comes from one of the two reserved operations, and each is performed exactly
in its class. -/
theorem stepStopsOnlyInTheReservedStates : Obligations.StepStopsOnlyInTheReservedStates := by
  refine ⟨fun s => ?_, fun s => ?_, fun s r => ?_⟩
  · rw [← performs_illegalState_iff, ← selected_eq_iff, step_eq, exec_eq_fault_iff]
    simp
  · rw [← performs_illegalCnt0_iff, ← selected_eq_iff, step_eq, exec_eq_fault_iff]
    simp
  · rw [step_eq]
    exact exec_ne_refused _ _ _

end Sys2Proof.Safety
end

section
/-! PROOF. The script's `FRAME` (30_encoding.md R90): a run over bytes offered one a cycle. -/

namespace Sys2Proof.Machine

/-- The port values of bytes offered one a cycle (R89). -/
def offers (bytes : List Byte) : List Inputs := bytes.map fun b => (ScriptLine.offer b).inputs

theorem scriptInputs_frame (header : Byte) (payload : List Byte) :
    scriptInputs [.frame header payload] =
      offers (frameChecked header payload ++ [sum8 (frameChecked header payload)]) := by
  simp [scriptInputs, ScriptItem.expand, offers]

/-- A live state accepts an offered byte. -/
theorem accepted_of_offers {s : State} {b : Byte} {bytes : List Byte} {later : List Inputs}
    (hl : s.state.live = true) (h : s.inputs = offers (b :: bytes) ++ later) :
    accepted s = some b ∧ s.tick.inputs = offers bytes ++ later := by
  have hnow : s.now = (ScriptLine.offer b).inputs := now_of_inputs h
  refine ⟨?_, by rw [tick_inputs, h]; rfl⟩
  rw [accepted, inReady, hl, hnow]
  rfl

/-- A recognized header starts a frame whose sum is the header (R123, R124). -/
theorem step_of_header {s : State} {h : Byte} (hs : s.state = .awaitHdr)
    (ha : accepted s = some h) (hh : h = 0x72 ∨ h = 0x1C) :
    ∃ t, step s = .next t ∧ t.state = .readLen ∧ t.acc = h ∧ t.inputs = s.tick.inputs := by
  obtain rfl | rfl := hh
  · exact ⟨_, step_of_performs (.hdrPrimary hs ha), rfl, rfl, rfl⟩
  · exact ⟨_, step_of_performs (.hdrTrace hs ha), rfl, rfl, rfl⟩

/-- A length of 2 or more starts a body of one byte less (R126). -/
theorem step_of_bodyLength {s : State} {l : Byte} (hs : s.state = .readLen)
    (ha : accepted s = some l) (two : 2 ≤ l.toNat) :
    ∃ t, step s = .next t ∧ t.state = .readBody ∧ t.len = l ∧ t.cnt.toNat = l.toNat - 1 ∧
      t.acc = s.acc + l ∧ t.inputs = s.tick.inputs := by
  have hcnt : (l - 1).toNat = l.toNat - 1 := by bv_omega
  exact ⟨_, step_of_performs (.lenBody l hs ha two), rfl, rfl, hcnt, rfl, rfl⟩

end Sys2Proof.Machine

namespace Sys2Proof.Safety

open Sys2Proof.Machine

/-- A body offered one byte a cycle: the payload is added up byte by byte, and the checksum byte is
compared with the sum and ends the frame (R129, R130). -/
theorem run_body (payload : List Byte) (c : Byte) (later : List Inputs) (s : State)
    (hs : s.state = .readBody) (hcnt : s.cnt.toNat = payload.length + 1)
    (hin : s.inputs = offers (payload ++ [c]) ++ later) :
    ∃ t, run (payload.length + 1) s = .next t ∧ t.inputs = later ∧ t.state = .awaitHdr ∧
      t.oDone = true ∧ t.oOk = (s.acc + sum8 payload == c) ∧ t.oShort = false ∧
      t.oLen = s.len := by
  have hl : s.state.live = true := by rw [hs]; rfl
  induction payload generalizing s with
  | nil =>
    obtain ⟨ha, htail⟩ := accepted_of_offers hl hin
    have h1 : s.cnt = 1 := BitVec.eq_of_toNat_eq hcnt
    have hstep := step_of_performs (.bodyChk c hs ha h1)
    exact ⟨_, run_succ_of_step hstep, htail, rfl, rfl, by simp, rfl, rfl⟩
  | cons b payload ih =>
    rw [List.length_cons] at hcnt
    obtain ⟨ha, htail⟩ := accepted_of_offers hl hin
    have hstep := step_of_performs (.bodyData b hs ha (by omega))
    have hcnt' : (s.cnt - 1).toNat = payload.length + 1 := by bv_omega
    rw [List.length_cons, run_succ_of_step hstep, sum8_cons, ← BitVec.add_assoc]
    exact ih _ hs hcnt' htail hl

/-- Settles O51: the header and the length start a body of the payload and its checksum byte, whose
sum is that of the bytes checked. -/
theorem scriptedFrameEndsWithAMatch : Obligations.ScriptedFrameEndsWithAMatch := by
  intro s h payload later hs hh hwf hin
  have hn : payload.length ≤ 253 := of_decide_eq_true hwf
  rw [scriptInputs_frame] at hin
  obtain ⟨hah, hrest⟩ := accepted_of_offers (by rw [hs]; rfl) hin
  obtain ⟨u, hu, hus, huacc, huin⟩ := step_of_header hs hah hh
  obtain ⟨hal, hbody⟩ := accepted_of_offers (by rw [hus]; rfl) (huin.trans hrest)
  have hlen : (BitVec.ofNat 8 (payload.length + 2)).toNat = payload.length + 2 :=
    Nat.mod_eq_of_lt (by omega)
  obtain ⟨v, hv, hvs, hvlen, hvcnt, hvacc, hvin⟩ := step_of_bodyLength hus hal (by omega)
  obtain ⟨t, ht, htin, hts, htdone, htok, htshort, htlen⟩ :=
    run_body payload _ later v hvs (by omega) (hvin.trans hbody)
  have htl : t.oLen.toNat = payload.length + 2 := by rw [htlen, hvlen, hlen]
  have hsum : v.acc + sum8 payload = sum8 (frameChecked h payload) := by
    rw [hvacc, huacc, frameChecked, sum8_cons, sum8_cons, BitVec.add_assoc]
  refine ⟨t, ?_, htin, hts, htdone, ?_, htshort, htl, ?_⟩
  · rw [run_succ_of_step hu, run_succ_of_step hv, ht]
  · rw [htok, hsum, beq_self_eq_true]
  · rw [payloadCount, htshort, htl]
    rfl

end Sys2Proof.Safety
end

section
/-! PROOF. How many selector vectors each row of the operation table selects (30_encoding.md R85), by
summing over the fields of the vector. -/

namespace Sys2Proof

/-! ## Sums over the fields -/

theorem sum_stateCode (f : BitVec 3 → Nat) :
    ∑ s, f s = f 0 + f 1 + f 2 + f 3 + f 4 + f 5 + f 6 + f 7 := by
  rw [Fintype.sum_equiv BitVec.equivFin.toEquiv f (fun i => f (BitVec.ofFin i)) fun _ => rfl]
  exact Fin.sum_univ_eight _

theorem card_bitVec (n : Nat) : Fintype.card (BitVec n) = 2 ^ n :=
  (FinEnum.card_eq_fintypeCard (α := BitVec n)).symm.trans (FinEnum.card_bitVec n)

/-- A sum over `BYTE` of what two constants single out. -/
theorem sum_byte_ite {x y : Byte} (h : x ≠ y) (i j k : Nat) :
    ∑ b : Byte, (if b = x then i else if b = y then j else k) = i + j + 254 * k := by
  have hy : y ∈ Finset.univ.erase x := Finset.mem_erase.mpr ⟨h.symm, Finset.mem_univ y⟩
  have hrest : ∀ b ∈ (Finset.univ.erase x).erase y,
      (if b = x then i else if b = y then j else k) = k := fun b hb => by
    obtain ⟨hby, hbx⟩ : b ≠ y ∧ b ≠ x := by simpa using hb
    rw [if_neg hbx, if_neg hby]
  have hcard : ((Finset.univ.erase x).erase y).card = 254 := by
    rw [Finset.card_erase_of_mem hy, Finset.card_erase_of_mem (Finset.mem_univ x),
      Finset.card_univ, card_bitVec]
    rfl
  rw [← Finset.add_sum_erase _ _ (Finset.mem_univ x), ← Finset.add_sum_erase _ _ hy,
    Finset.sum_congr rfl hrest, Finset.sum_const, hcard, if_pos rfl, if_neg h.symm, if_pos rfl,
    smul_eq_mul, Nat.add_assoc]

/-- A selector vector is its fields, `RST` and `S` first, which decide the most rows. -/
def osvEquiv : Osv ≃ Bool × BitVec 3 × Bool × Bool × Bool × Bool × Byte where
  toFun w := (osvRst w, osvS w, osvZ w, osvFail w, osvV w, osvLast w, osvByte w)
  invFun | (rst, s, z, fail, v, last, b) => packOsv z rst fail v s last b
  left_inv := packOsv_fields
  right_inv _ := by simp

theorem sum_osv (f : Osv → Nat) : ∑ w, f w =
    ∑ rst, ∑ s, ∑ z, ∑ fail, ∑ v, ∑ last, ∑ b, f (packOsv z rst fail v s last b) := by
  rw [← Equiv.sum_comp osvEquiv.symm]
  simp only [Fintype.sum_prod_type]
  rfl

/-! ## The rows selected -/

/-- The row that a vector selects, if it selects one. -/
def selectedRow (w : Osv) : Option Nat := (decode w).toOption.map Instr.row

theorem selectedRow_packOsv (z rst fail v : Bool) (s : BitVec 3) (last : Bool) (b : Byte) :
    selectedRow (packOsv z rst fail v s last b) = some (
      if rst then 1
      else if s = 3 then 2
      else if s = 4 then 3
      else if 4 ≤ s.toNat then 4
      else if s = 2 ∧ z then 5
      else if fail then 6
      else if v = false then 7
      else if s = 0 then if b = 0x72 then 8 else if b = 0x1C then 9 else 10
      else if s = 1 then if b = 0x00 then 11 else if b = 0x01 then 12 else 13
      else if last then 14 else 15) := by
  rw [selectedRow, decode_packOsv]
  simp only [Except.toOption, Option.map_some, apply_ite Instr.row]
  rfl

/-- Summed over all vectors, a weight of the row selected counts each row as often as R85 lists.
A field that the row does not test doubles its count, and `S` and `BYTE` add up case by case. -/
theorem sum_selectedRow (f : Option Nat → Nat) : ∑ w, f (selectedRow w) =
    32768 * f (some 1) + 4096 * f (some 2) + 4096 * f (some 3) + 12288 * f (some 4) +
    2048 * f (some 5) + 5120 * f (some 6) + 2560 * f (some 7) + 4 * f (some 8) + 4 * f (some 9) +
    1016 * f (some 10) + 4 * f (some 11) + 4 * f (some 12) + 1016 * f (some 13) +
    256 * f (some 14) + 256 * f (some 15) := by
  rw [sum_osv]
  simp +arith [selectedRow_packOsv, sum_stateCode, apply_ite f, apply_ite some, sum_byte_ite,
    card_bitVec]

end Sys2Proof

namespace Sys2Proof.Safety

/-- A count over the numbers below 65,536 is a sum over the vectors. -/
theorem selectedCount_eq_sum (n : Nat) :
    selectedCount n = ∑ w, if selectedRow w = some n then 1 else 0 := by
  have hfin : ∑ w : Osv, (if selectedRow w = some n then 1 else 0) =
      ∑ i : Fin 65536, if selectedRow (BitVec.ofNat 16 i) = some n then 1 else 0 :=
    Fintype.sum_equiv BitVec.equivFin.toEquiv _ _ fun w => by
      have hw : BitVec.ofNat 16 (BitVec.equivFin.toEquiv w) = w :=
        (BitVec.ofNat_toNat 16 w).trans (BitVec.setWidth_eq w)
      rw [hw]
  have htest : (fun w => (decode (BitVec.ofNat 16 w)).toOption.map Instr.row == some n) =
      fun w => decide (selectedRow (BitVec.ofNat 16 w) = some n) :=
    funext fun _ => beq_eq_decide ..
  rw [hfin, ← Finset.sum_range fun i => if selectedRow (BitVec.ofNat 16 i) = some n then 1 else 0,
    ← Finset.card_filter, selectedCount, htest, List.countP_eq_length_filter]
  rfl

/-- Settles O6: every vector is packed from its fields, and each row's count is its coefficient in
the sum over all vectors. -/
theorem tableIsTotalWithTheListedCounts : Obligations.TableIsTotalWithTheListedCounts := by
  have hcount (n : Nat) :=
    (selectedCount_eq_sum n).trans (sum_selectedRow fun r => if r = some n then 1 else 0)
  refine ⟨exists_decode, ?_⟩
  simp only [hcount]
  decide

end Sys2Proof.Safety
end

section
/-! PROOF. The checksum of 40_checksum.md: its sums modulo 256, what a comparison detects, and the
comparison that the checksum byte of a frame makes. -/

namespace Sys2Proof.Machine

/-! ## Sums modulo 256 (R100, R101) -/

/-- The fold of `add8` is the sum of the bytes, in the commutative ring of 8-bit words. -/
theorem sum8_eq_sum (bytes : List Byte) : sum8 bytes = bytes.sum := by
  induction bytes with
  | nil => rfl
  | cons b bytes ih => rw [sum8_cons, List.sum_cons, ih]

theorem sum8_perm {bs cs : List Byte} (h : bs.Perm cs) : sum8 bs = sum8 cs := by
  rw [sum8_eq_sum, sum8_eq_sum, h.sum_eq]

theorem toNat_sum8 (bytes : List Byte) :
    (sum8 bytes).toNat = (bytes.map fun b => b.toNat).sum % 256 := by
  induction bytes with
  | nil => rfl
  | cons b bytes ih =>
    rw [sum8_cons, BitVec.toNat_add, ih, List.map_cons, List.sum_cons, Nat.add_mod_mod]

/-! ## Comparing with a checksum byte (R103) -/

theorem verify_eq_true_iff {bytes : List Byte} {c : Byte} :
    verify bytes c = true ↔ sum8 bytes = c := beq_iff_eq

theorem verify_eq_false_iff {bytes : List Byte} {c : Byte} :
    verify bytes c = false ↔ sum8 bytes ≠ c := beq_eq_false_iff_ne

/-- A change of one byte changes the sum by the same amount. -/
theorem sum8_change (pre post : List Byte) (b d : Byte) :
    sum8 (pre ++ (b + d) :: post) = sum8 (pre ++ b :: post) + d := by
  simp only [sum8_append, sum8_cons]
  ac_rfl

/-- Changes of two bytes change the sum by the sum of the two amounts. -/
theorem sum8_change_two (pre mid post : List Byte) (a b d1 d2 : Byte) :
    sum8 (pre ++ (a + d1) :: mid ++ (b + d2) :: post) =
      sum8 (pre ++ a :: mid ++ b :: post) + (d1 + d2) := by
  rw [sum8_change, sum8_append, sum8_change, sum8_append (pre ++ a :: mid)]
  ac_rfl

end Sys2Proof.Machine

namespace Sys2Proof.Safety

open Sys2Proof.Machine

/-- Settles O36: the words' addition is modulo 256, so a sum of words is the sum of their numbers
modulo 256. -/
theorem checksumArithmeticIsSumModulo256 : Obligations.ChecksumArithmeticIsSumModulo256 :=
  ⟨BitVec.toNat_add, rfl, sum8_nil, sum8_concat, toNat_sum8⟩

/-- The checksum byte of a frame, accepted in a state that meets the frame invariants, ends the
frame with the comparison of the bytes before it against this byte (R108, R130). -/
theorem FrameInv.step_of_checksum {bytes : List Byte} {s : State} {c : Byte}
    (hinv : FrameInv bytes s) (hs : s.state = .readBody) (hc : s.cnt = 1)
    (ha : accepted s = some c) :
    ∃ t, step s = .next t ∧ t.oDone = true ∧ t.oOk = verify bytes c ∧
      t.oCalc = checksum bytes ∧ t.oExp = c := by
  have hacc : s.acc = sum8 bytes := hinv.sum (.inr hs)
  refine ⟨_, step_of_performs (.bodyChk c hs ha hc), rfl, ?_, hacc, rfl⟩
  rw [verify, ← hacc]
  rfl

/-- Settles O37: a sequence is compared with its own sum, and the last byte of a frame makes that
comparison. -/
theorem verifyRoundTrips : Obligations.VerifyRoundTrips := by
  have hself (bs : List Byte) : verify bs (checksum bs) = true := verify_eq_true_iff.mpr rfl
  refine ⟨hself, fun bytes s hinv hs hc ha => ⟨hinv.length_of_last hs hc, ?_⟩⟩
  obtain ⟨t, ht, hdone, hok, -⟩ := hinv.step_of_checksum hs hc ha
  exact ⟨t, ht, hdone, hok.trans (hself bytes)⟩

/-- Settles O38: every step keeps the invariant that `ACC` is the sum, and the checksum byte is
compared with `ACC`. -/
theorem accumulatorTracksTheFrameSum : Obligations.AccumulatorTracksTheFrameSum := by
  refine ⟨fun bytes s t hinv h => (hinv.of_effect (effect_of_step h)).sum,
    fun bytes s c hinv hs hc ha => ⟨hinv.length_of_last hs hc, ?_⟩⟩
  obtain ⟨t, ht, -, hreport⟩ := hinv.step_of_checksum hs hc ha
  exact ⟨t, ht, hreport⟩

/-- Settles O39: only the sum is compared; an order does not enter it, and changes enter it as
their own sum. -/
theorem checksumMissesOrderAndCancellingPairsDetectsSingleChanges :
    Obligations.ChecksumMissesOrderAndCancellingPairsDetectsSingleChanges := by
  refine ⟨fun bs cs c h => ?_, fun pre post b d hd => ?_, fun bs c hc => ?_,
    fun pre mid post a b d1 d2 => ?_⟩
  · rw [verify, verify, sum8_perm h]
  · rw [verify_eq_false_iff, sum8_change, checksum, Ne, add_eq_left]
    exact hd
  · exact verify_eq_false_iff.mpr hc.symm
  · rw [verify_eq_true_iff, sum8_change_two, checksum, add_eq_left]

end Sys2Proof.Safety
end

section
/-! PROOF. The frame operations of 41_frame_ops.md, one at a time: what each writes, and the cycle
that performs it. -/

namespace Sys2Proof.Machine

/-! ## `IDLE` -/

/-- Every operation writes both pulses or faults, so it does not see the pulses of the cycle before
(R120). -/
theorem exec_pulseDefaults (i : Instr) (s : State) : exec i s.pulseDefaults = exec i s := by
  cases i <;> rfl

theorem accepted_of_not_inValid {s : State} (h : s.now.inValid = false) : accepted s = none :=
  accepted_eq_none_iff.mpr (.inl h)

/-! ## The outputs after a frame's report (R121) -/

section Report

variable (s : State) (ok short : Bool) (computed expected len : Byte)

theorem oPersist_report : oPersist (s.report ok short computed expected len) = s.var := rfl

theorem oCause_report_short : oCause (s.report ok true computed expected len) = 4 := rfl

theorem oCause_report_ok : oCause (s.report true false computed expected len) = 0 := rfl

theorem oCause_report_mismatch : oCause (s.report false false computed expected len) = 3 := rfl

end Report

/-- In `DESYNC` only `rst` leads to another state (R152). -/
theorem state_of_step_desync {s t : State} (hs : s.state = .desync) (hr : s.now.rst = false)
    (h : step s = .next t) : t.state = .desync := by
  cases (step_of_performs (.haltDesync hr hs)).symm.trans h
  exact hs

end Sys2Proof.Machine

namespace Sys2Proof.Safety

open Sys2Proof.Machine

/-- `CNT` is 0 before a header and no cycle that awaits one writes another value to it. -/
theorem FrameInv.cnt_of_awaitHdr {bytes : List Byte} {s t : State} (hinv : FrameInv bytes s)
    (hs : s.state = .awaitHdr) (h : step s = .next t) : s.cnt = 0 ∧ t.cnt = 0 := by
  have hcnt : s.cnt = 0 := hinv.countZero (.inl hs)
  refine ⟨hcnt, ?_⟩
  cases effect_of_step h with
  | reset => rfl
  | shortLength => rfl
  | checksum => rfl
  | bodyLength _ state => cases hs.symm.trans state
  | payload _ state => cases hs.symm.trans state
  | _ => exact hcnt

/-- Settles O13: `IDLE` is the defaults alone, and every operation begins with the defaults. -/
theorem idleLowersThePulsesAndIsTransparent : Obligations.IdleLowersThePulsesAndIsTransparent := by
  refine ⟨exec_idle, fun s hl hc hr hf hoff => ?_, fun s t i h => ?_⟩
  · have ha : accepted s = none := hoff.elim accepted_of_not_inValid accepted_of_sinkHold
    have hcnt : s.state = .readBody → s.cnt ≠ 0 := fun hs h0 => hc ⟨hs, h0⟩
    exact ⟨ha, step_of_performs (.idle hr hl hcnt hf ha)⟩
  · cases h
    exact exec_pulseDefaults i s

/-- Settles O14: the meaning of `HDR_PRIMARY`, and `CNT` across any cycle that awaits a header. -/
theorem primaryHeaderStartsAFrame : Obligations.PrimaryHeaderStartsAFrame :=
  ⟨fun b s => exec_hdrPrimary s b, fun _ hs ha => step_of_performs (.hdrPrimary hs ha),
    fun _ _ _ hinv hs _ => hinv.cnt_of_awaitHdr hs⟩

/-- Settles O15: the meaning of `HDR_TRACE`, and `CNT` across any cycle that awaits a header. -/
theorem traceHeaderStartsAFrame : Obligations.TraceHeaderStartsAFrame :=
  ⟨fun b s => exec_hdrTrace s b, fun _ hs ha => step_of_performs (.hdrTrace hs ha),
    fun _ _ _ hinv hs _ => hinv.cnt_of_awaitHdr hs⟩

/-- Settles O16: `HDR_BAD` enters `DESYNC`, whose outputs follow from the state code and which holds
until `rst`. -/
theorem unrecognizedHeaderDesynchronizes : Obligations.UnrecognizedHeaderDesynchronizes := by
  refine ⟨fun b s => exec_hdrBad s b, fun b s hs ha h1 h2 => ?_, fun s t hs h hr => ?_⟩
  · exact ⟨_, step_of_performs (.hdrBad b hs ha h1 h2), rfl, rfl, rfl, rfl,
      accepted_of_desync rfl⟩
  · exact ⟨state_of_step_desync hs hr h, accepted_of_desync hs⟩

/-- Settles O17: a length of 2 or more leaves a byte count that does not wrap. -/
theorem normalLengthStartsTheBody : Obligations.NormalLengthStartsTheBody := by
  refine ⟨fun l s => exec_lenBody s l, fun l s hs ha two => ?_⟩
  have hcnt : (l - 1).toNat = l.toNat - 1 := by bv_omega
  exact ⟨step_of_performs (.lenBody l hs ha two), hcnt, by omega, by omega⟩

/-- Settles O18: `LEN_ONE` reports a short frame, which is cause 4. -/
theorem lengthOneEndsAShortFrame : Obligations.LengthOneEndsAShortFrame := by
  refine ⟨fun l s => exec_lenOne s l, fun s hs ha => ?_⟩
  exact ⟨_, step_of_performs (.lenOne hs ha), rfl, oCause_report_short .., oPersist_report ..⟩

/-- Settles O19: `LEN_ZERO` reports a short frame, which is cause 4; adding the length 0 leaves the
sum. -/
theorem lengthZeroEndsAShortFrame : Obligations.LengthZeroEndsAShortFrame := by
  refine ⟨fun l s => exec_lenZero s l, fun s hs ha => ?_⟩
  exact ⟨_, step_of_performs (.lenZero hs ha), rfl, oCause_report_short .., oPersist_report ..,
    BitVec.add_zero s.acc⟩

/-- Settles O20: a count of 2 or more can be lowered by 1, and the invariant `CNT <= LEN - 1` bounds
the position of a payload byte. -/
theorem payloadByteIsAddedAndCounted : Obligations.PayloadByteIsAddedAndCounted := by
  refine ⟨fun b s => exec_bodyData s b, fun b s hs two ha => ?_, fun bytes s hinv hs two => ?_⟩
  · have hcnt : (s.cnt - 1).toNat = s.cnt.toNat - 1 := by bv_omega
    exact ⟨step_of_performs (.bodyData b hs ha two), hcnt, by omega⟩
  · obtain ⟨-, -, hle⟩ := hinv.count hs
    have hpos : (s.len + 1 - s.cnt).toNat = s.len.toNat + 1 - s.cnt.toNat := by bv_omega
    exact ⟨hpos, by omega, by omega⟩

/-- Settles O21: the last body byte stands at position `LEN`, and the cause follows the comparison
reported. -/
theorem checksumByteIsComparedAndTheFrameReported :
    Obligations.ChecksumByteIsComparedAndTheFrameReported := by
  refine ⟨fun c s => exec_bodyChk s c, fun c s hs hc ha => ?_⟩
  have hpos : bodyPosition s = s.len := by rw [bodyPosition, hc, BitVec.add_sub_cancel]
  have hstep := step_of_performs (.bodyChk c hs ha hc)
  rw [exec_bodyChk, bodyPosition_tick, hpos, tick_acc] at hstep
  refine ⟨_, hstep, rfl, fun hne => ?_, fun heq => ?_, oPersist_report ..⟩
  · rw [beq_false_of_ne hne]
    exact oCause_report_mismatch ..
  · rw [beq_iff_eq.mpr heq]
    exact oCause_report_ok ..

end Sys2Proof.Safety
end

section
/-! PROOF. The transition relation of 41_frame_ops.md R140: what an operation performed makes of
`STATE`, and a cycle that performs each listed transition. -/

namespace Sys2Proof.Machine

/-- A cycle's vector decodes to the operation that the cycle performs. -/
theorem decode_of_performs {s : State} {i : Instr} (h : Performs s i) : decode (osv s) = .ok i := by
  rw [decode_osv, selected_eq_iff.mpr h]

/-- A state that stands in `src` with this count and this script line for the cycle. -/
def atCycle (src : ProtocolState) (cnt : Byte) (line : ScriptLine) : State :=
  { State.reset with state := src, cnt := cnt, inputs := [line.inputs] }

theorem accepted_atCycle_offer {src : ProtocolState} (hl : src.live = true) (cnt b : Byte) :
    accepted (atCycle src cnt (.offer b)) = some b :=
  (accepted_of_offers (bytes := []) (later := []) hl rfl).1

end Sys2Proof.Machine

namespace Sys2Proof.Safety

open Sys2Proof.Machine

section Transitions

variable {s t : State} {i : Instr} {src dst : ProtocolState}

/-- An operation that answers a next state moves `STATE` as R140 lists. -/
theorem transition_of_exec (hp : Performs s i) (he : exec i s.tick = .next t) :
    transition s.state i t.state := by
  cases hp with
  | illegalState | illegalCnt0 => cases he
  | reset => cases he; rfl
  | haltDesync _ state | haltFailed _ state | bodyData _ state => cases he; exact ⟨state, state⟩
  | xportFail _ state | idle _ state => cases he; exact ⟨state, rfl⟩
  | hdrPrimary state | hdrTrace state | hdrBad _ state => cases he; exact ⟨state, rfl⟩
  | lenZero state | lenOne state | lenBody _ state => cases he; exact ⟨state, rfl⟩
  | bodyChk _ state => cases he; exact ⟨state, rfl⟩

/-- Some cycle performs each listed transition of a well-formed operation. -/
theorem exists_performs_of_transition (hwf : i.wellFormed = true) (h : transition src i dst) :
    ∃ s t : State, s.state = src ∧ Performs s i ∧ exec i s.tick = .next t ∧ t.state = dst := by
  have hone : src = .readBody → (1 : Byte) ≠ 0 := fun _ => by decide
  have hoffer := @accepted_atCycle_offer src
  cases i with
  | illegalState | illegalCnt0 => cases h
  | reset =>
    cases h
    exact ⟨atCycle src 0 .reset, _, rfl, .reset rfl, rfl, rfl⟩
  | haltDesync =>
    obtain ⟨rfl, rfl⟩ := h
    exact ⟨atCycle .desync 0 .quiet, _, rfl, .haltDesync rfl rfl, rfl, rfl⟩
  | haltFailed =>
    obtain ⟨rfl, rfl⟩ := h
    exact ⟨atCycle .failed 0 .quiet, _, rfl, .haltFailed rfl rfl, rfl, rfl⟩
  | xportFail =>
    obtain ⟨hl, rfl⟩ := h
    exact ⟨atCycle src 1 .fail, _, rfl, .xportFail rfl hl hone rfl, rfl, rfl⟩
  | idle =>
    obtain ⟨hl, rfl⟩ := h
    exact ⟨atCycle dst 1 .quiet, _, rfl, .idle rfl hl hone rfl rfl, rfl, rfl⟩
  | hdrPrimary b =>
    obtain ⟨rfl, rfl⟩ := h
    cases (beq_iff_eq.mp hwf : b = 0x72)
    exact ⟨_, _, rfl, .hdrPrimary rfl (hoffer rfl 0 _), rfl, rfl⟩
  | hdrTrace b =>
    obtain ⟨rfl, rfl⟩ := h
    cases (beq_iff_eq.mp hwf : b = 0x1C)
    exact ⟨_, _, rfl, .hdrTrace rfl (hoffer rfl 0 _), rfl, rfl⟩
  | hdrBad b =>
    obtain ⟨rfl, rfl⟩ := h
    obtain ⟨h1, h2⟩ : b ≠ 0x72 ∧ b ≠ 0x1C :=
      (Bool.and_eq_true_iff.mp hwf).imp bne_iff_ne.mp bne_iff_ne.mp
    exact ⟨_, _, rfl, .hdrBad b rfl (hoffer rfl 0 b) h1 h2, rfl, rfl⟩
  | lenZero l =>
    obtain ⟨rfl, rfl⟩ := h
    cases (beq_iff_eq.mp hwf : l = 0x00)
    exact ⟨_, _, rfl, .lenZero rfl (hoffer rfl 0 _), rfl, rfl⟩
  | lenOne l =>
    obtain ⟨rfl, rfl⟩ := h
    cases (beq_iff_eq.mp hwf : l = 0x01)
    exact ⟨_, _, rfl, .lenOne rfl (hoffer rfl 0 _), rfl, rfl⟩
  | lenBody l =>
    obtain ⟨rfl, rfl⟩ := h
    exact ⟨_, _, rfl, .lenBody l rfl (hoffer rfl 0 l) (of_decide_eq_true hwf), rfl, rfl⟩
  | bodyChk c =>
    obtain ⟨rfl, rfl⟩ := h
    exact ⟨_, _, rfl, .bodyChk c rfl (hoffer rfl 1 c) rfl, rfl, rfl⟩
  | bodyData b =>
    obtain ⟨rfl, rfl⟩ := h
    exact ⟨_, _, rfl, .bodyData b rfl (hoffer rfl 2 b) le_rfl, rfl, rfl⟩

end Transitions

/-- Settles O29: the operation decoded is the one performed, in a cycle from any state and in the
cycle that shows a listed transition. -/
theorem stateMovesOnlyAsListed : Obligations.StateMovesOnlyAsListed := by
  refine ⟨fun s t h => ?_, fun src i dst hwf h => ?_⟩
  · obtain ⟨i, hp, he⟩ := step_cases h
    exact ⟨i, decode_of_performs hp, transition_of_exec hp he⟩
  · obtain ⟨s, t, hs, hp, he, ht⟩ := exists_performs_of_transition hwf h
    exact ⟨s, t, hs, decode_of_performs hp, (step_of_performs hp).trans he, ht⟩

end Sys2Proof.Safety
end

section
/-! PROOF. Two runs over the same bytes (41_frame_ops.md R144): an operation reads nothing that the
previous frame left. -/

namespace Sys2Proof.Safety

open Sys2Proof.Machine

/-- What two cycles over the same frame leave equal: the next states agree on the frame, on the
pulses, and on the tag and the report where their pulse says that they count. -/
structure SameOutcome (s u : State) : Prop where
  frame : SameFrame s u
  done : s.oDone = u.oDone
  valid : s.oBvalid = u.oBvalid
  tag : s.oBvalid = true → s.oByte = u.oByte ∧ s.oRole = u.oRole ∧ s.oBidx = u.oBidx
  report : s.oDone = true → s.oPrimary = u.oPrimary ∧ s.oOk = u.oOk ∧ s.oShort = u.oShort ∧
    s.oCalc = u.oCalc ∧ s.oExp = u.oExp ∧ s.oLen = u.oLen

section TwoRuns

variable {s u s' : State} {i : Instr}

theorem SameFrame.now_eq (h : SameFrame s u) : s.now = u.now := by
  rw [State.now, State.now, h.inputs, h.cycle]

theorem SameFrame.accepted_eq (h : SameFrame s u) : accepted s = accepted u := by
  rw [accepted, accepted, inReady, inReady, h.now_eq, h.state]

/-- States that agree on the frame select the same operation: `CNT` is read in a body alone. -/
theorem SameFrame.selected_eq (h : SameFrame s u) : selected s = selected u := by
  rw [selected, selected, ← h.now_eq, ← h.accepted_eq, ← h.state]
  cases hs : s.state with
  | readBody => rw [(h.length hs).2]
  | _ => rfl

theorem SameFrame.bodyPosition_eq (h : SameFrame s u) (hs : s.state = .readBody) :
    bodyPosition s = bodyPosition u := by
  rw [bodyPosition, bodyPosition, (h.length hs).1, (h.length hs).2]

/-- An operation performed in a state answers the same outcome in any state that agrees on the
frame. -/
theorem SameFrame.exists_exec (h : SameFrame s u) (hp : Performs s i) (he : exec i s.tick = .next s') :
    ∃ u', exec i u.tick = .next u' ∧ SameOutcome s' u' := by
  have hin : s.inputs.tail = u.inputs.tail := congrArg List.tail h.inputs
  have hcycle : s.cycle + 1 = u.cycle + 1 := congrArg (· + 1) h.cycle
  have hkeep : SameFrame s.tick.pulseDefaults u.tick.pulseDefaults :=
    ⟨h.state, hin, hcycle, h.header, h.length⟩
  cases hp with
  | illegalState | illegalCnt0 => cases he
  | reset | xportFail =>
    cases he
    exact ⟨_, rfl, ⟨rfl, hin, hcycle, nofun, nofun⟩, rfl, rfl, nofun, nofun⟩
  | haltDesync | haltFailed | idle => cases he; exact ⟨_, rfl, hkeep, rfl, rfl, nofun, nofun⟩
  | hdrPrimary | hdrTrace =>
    cases he
    exact ⟨_, rfl, ⟨rfl, hin, hcycle, fun _ => ⟨rfl, rfl⟩, nofun⟩, rfl, rfl,
      fun _ => ⟨rfl, rfl, rfl⟩, nofun⟩
  | hdrBad =>
    cases he
    exact ⟨_, rfl, ⟨rfl, hin, hcycle, nofun, nofun⟩, rfl, rfl, fun _ => ⟨rfl, rfl, rfl⟩, nofun⟩
  | lenZero state =>
    obtain ⟨hvar, hacc⟩ := h.header (.inl state)
    cases he
    exact ⟨_, rfl, ⟨rfl, hin, hcycle, nofun, nofun⟩, rfl, rfl, fun _ => ⟨rfl, rfl, rfl⟩,
      fun _ => ⟨hvar, rfl, rfl, hacc, rfl, rfl⟩⟩
  | lenOne state =>
    obtain ⟨hvar, hacc⟩ := h.header (.inl state)
    cases he
    exact ⟨_, rfl, ⟨rfl, hin, hcycle, nofun, nofun⟩, rfl, rfl, fun _ => ⟨rfl, rfl, rfl⟩,
      fun _ => ⟨hvar, rfl, rfl, congrArg (add8 · _) hacc, rfl, rfl⟩⟩
  | lenBody l state =>
    obtain ⟨hvar, hacc⟩ := h.header (.inl state)
    cases he
    exact ⟨_, rfl, ⟨rfl, hin, hcycle, fun _ => ⟨hvar, congrArg (add8 · l) hacc⟩,
      fun _ => ⟨rfl, rfl⟩⟩, rfl, rfl, fun _ => ⟨rfl, rfl, rfl⟩, nofun⟩
  | bodyData b state =>
    obtain ⟨hvar, hacc⟩ := h.header (.inr state)
    obtain ⟨hlen, hcnt⟩ := h.length state
    cases he
    exact ⟨_, rfl, ⟨h.state, hin, hcycle, fun _ => ⟨hvar, congrArg (add8 · b) hacc⟩,
      fun _ => ⟨hlen, congrArg (· - 1) hcnt⟩⟩, rfl, rfl,
      fun _ => ⟨rfl, rfl, h.bodyPosition_eq state⟩, nofun⟩
  | bodyChk c state =>
    obtain ⟨hvar, hacc⟩ := h.header (.inr state)
    obtain ⟨hlen, -⟩ := h.length state
    cases he
    exact ⟨_, rfl, ⟨rfl, hin, hcycle, nofun, nofun⟩, rfl, rfl,
      fun _ => ⟨rfl, rfl, h.bodyPosition_eq state⟩,
      fun _ => ⟨hvar, congrArg (· == c) hacc, rfl, hacc, rfl, hlen⟩⟩

end TwoRuns

/-- Settles O49: the same operation is performed, with the same outcome. -/
theorem frameOutcomeDependsOnlyOnItsOwnBytes :
    Obligations.FrameOutcomeDependsOnlyOnItsOwnBytes := by
  intro s u s' h hstep
  obtain ⟨i, hp, he⟩ := step_cases hstep
  obtain ⟨u', hu, hframe, hdone, hvalid, htag, hreport⟩ := h.exists_exec hp he
  have hsel : selected u = i := h.selected_eq.symm.trans (selected_eq_iff.mpr hp)
  exact ⟨u', by rw [step_eq, hsel, hu], hframe, hdone, hvalid, htag, hreport⟩

end Sys2Proof.Safety
end

section
/-! PROOF. A whole frame (41_frame_ops.md R142), through any idle cycles: which bytes are still to
come, and that every cycle before the last keeps it so. -/

namespace Sys2Proof.Machine

/-- A length below 2 ends the frame; R127's report covers both lengths, since adding 0 leaves
the sum. -/
theorem step_of_shortLength {s : State} {l : Byte} (hs : s.state = .readLen)
    (ha : accepted s = some l) (short : l.toNat < 2) :
    step s = .next ({ s.tick.pulseDefaults.emit .len l 1 with
      len := l, acc := add8 s.acc l }.report false true (add8 s.acc l) 0x00 l) := by
  by_cases h0 : l = 0
  · subst h0
    exact (step_of_performs (.lenZero hs ha)).trans (exec_lenZero_zero s.tick)
  · have h1 : l = 1 := by
      by_contra h1
      exact absurd ((two_le_toNat_iff l).mpr ⟨h0, h1⟩) (Nat.not_le.mpr short)
    subst h1
    exact step_of_performs (.lenOne hs ha)

end Sys2Proof.Machine

namespace Sys2Proof.Safety

open Sys2Proof.Machine

/-! ## Where a run stands in a frame -/

/-- In state `s` the last argument's bytes are still to come of the frame `h`, `l`, `body`: the
whole frame before its header, and then what the registers have not yet taken in. -/
inductive Awaits (h l : Byte) (body : List Byte) (s : State) : List Byte → Prop where
  | frame (state : s.state = .awaitHdr) : Awaits h l body s (h :: l :: body)
  | length (state : s.state = .readLen) (var : s.var = (h == 0x72)) (acc : s.acc = h) :
    Awaits h l body s (l :: body)
  | body (read rest : List Byte) (split : body = read ++ rest) (state : s.state = .readBody)
    (two : 2 ≤ l.toNat) (var : s.var = (h == 0x72)) (acc : s.acc = sum8 (h :: l :: read))
    (len : s.len = l) (cnt : s.cnt.toNat = rest.length) (more : rest ≠ []) :
    Awaits h l body s rest

/-- The report of the frame `h`, `l`, `body` stands in `t` (R121, R127, R128, R130). -/
structure Reports (h l : Byte) (body : List Byte) (t : State) : Prop where
  state : t.state = .awaitHdr
  done : t.oDone = true
  len : t.oLen = l
  primary : t.oPrimary = (h == 0x72)
  normal : 2 ≤ l.toNat → t.oShort = false ∧ t.oBidx = l ∧
    t.oCalc = checksum (h :: l :: body).dropLast ∧ (h :: l :: body).getLast? = some t.oExp ∧
    t.oOk = verify (h :: l :: body).dropLast t.oExp
  short : l.toNat < 2 → t.oShort = true ∧ t.oOk = false ∧ t.oBidx = 1 ∧
    t.oCalc = checksum [h, l] ∧ t.oExp = 0

section Frame

variable {h l c : Byte} {body rest : List Byte} {s : State}

theorem Awaits.live (hw : Awaits h l body s rest) : s.state.live = true := by
  cases hw with
  | frame state | length state | body _ _ _ state => rw [state]; rfl

theorem Awaits.cnt_ne_zero (hw : Awaits h l body s rest) (hs : s.state = .readBody) :
    s.cnt ≠ 0 := by
  cases hw with
  | frame state | length state => cases state.symm.trans hs
  | body _ _ _ _ _ _ _ _ cnt more =>
    rintro h0
    rw [h0] at cnt
    exact more (List.eq_nil_of_length_eq_zero cnt.symm)

/-- A cycle that accepts nothing leaves the frame where it stands (R122). -/
theorem Awaits.quiet (hw : Awaits h l body s rest) : Awaits h l body s.tick.pulseDefaults rest := by
  cases hw with
  | frame state => exact .frame state
  | length state var acc => exact .length state var acc
  | body read _ split state two var acc len cnt more =>
    exact .body read rest split state two var acc len cnt more

/-- A byte that is not the frame's last takes the run one byte further and ends no frame. -/
theorem Awaits.step_of_byte (hw : Awaits h l body s (c :: rest)) (hh : h = 0x72 ∨ h = 0x1C)
    (hlen : body.length = l.toNat - 1) (hmore : rest ≠ []) (ha : accepted s = some c) :
    ∃ t, step s = .next t ∧ t.inputs = s.tick.inputs ∧ t.oDone = false ∧
      Awaits h l body t rest := by
  cases hw with
  | frame state =>
    obtain rfl | rfl := hh
    · exact ⟨_, step_of_performs (.hdrPrimary state ha), rfl, rfl, .length rfl rfl rfl⟩
    · exact ⟨_, step_of_performs (.hdrTrace state ha), rfl, rfl, .length rfl rfl rfl⟩
  | length state var acc =>
    have hpos : 0 < body.length := List.length_pos_of_ne_nil hmore
    have two : 2 ≤ l.toNat := by omega
    have hcnt : (l - 1).toNat = body.length := by bv_omega
    have hacc : add8 s.acc l = sum8 [h, l] := by simp [acc, add8_eq]
    exact ⟨_, step_of_performs (.lenBody l state ha two), rfl, rfl,
      .body [] body rfl rfl two var hacc rfl hcnt hmore⟩
  | body read _ split state two var acc len cnt =>
    have hpos : 0 < rest.length := List.length_pos_of_ne_nil hmore
    rw [List.length_cons] at cnt
    have hcnt : (s.cnt - 1).toNat = rest.length := by bv_omega
    have hacc : add8 s.acc c = sum8 (h :: l :: (read ++ [c])) := by
      rw [acc, ← sum8_concat]; rfl
    exact ⟨_, step_of_performs (.bodyData c state ha (by omega)), rfl, rfl,
      .body (read ++ [c]) rest (by simp [split]) state two var hacc len hcnt hmore⟩

/-- The frame's last byte ends it with its report. -/
theorem Awaits.step_of_last (hw : Awaits h l body s [c]) (hlen : body.length = l.toNat - 1)
    (ha : accepted s = some c) :
    ∃ t, step s = .next t ∧ t.inputs = s.tick.inputs ∧ Reports h l body t := by
  cases hw with
  | length state var acc =>
    have short : l.toNat < 2 := by rw [List.length_nil] at hlen; omega
    have hacc : add8 s.acc l = checksum [h, l] := by simp [checksum, acc, add8_eq]
    exact ⟨_, step_of_shortLength state ha short, rfl, rfl, rfl, rfl, var,
      fun two => absurd short (Nat.not_lt.mpr two), fun _ => ⟨rfl, rfl, rfl, hacc, rfl⟩⟩
  | body read _ split state two var acc len cnt =>
    have h1 : s.cnt = 1 := BitVec.eq_of_toNat_eq cnt
    have hpos : bodyPosition s = l := by rw [bodyPosition, h1, BitVec.add_sub_cancel, len]
    have hframe : h :: l :: body = (h :: l :: read) ++ [c] := by rw [split]; rfl
    refine ⟨_, step_of_performs (.bodyChk c state ha h1), rfl, rfl, rfl, len, var, fun _ => ?_,
      fun short => absurd short (Nat.not_lt.mpr two)⟩
    rw [hframe, List.dropLast_concat, List.getLast?_concat, checksum, verify, ← acc]
    exact ⟨rfl, hpos, rfl, rfl, rfl⟩

end Frame

/-! ## The bytes a cycle delivers -/

/-- In a live state an undisturbed cycle accepts what it delivers. -/
theorem delivered_cons {s : State} {x : Inputs} {xs : List Inputs} (hl : s.state.live = true)
    (hnow : s.now = x) (hr : x.rst = false) (hf : x.xportFail = false) :
    delivered (x :: xs) = (accepted s).toList ++ delivered xs := by
  subst hnow
  cases hv : s.now.inValid <;> cases hk : s.now.sinkHold <;>
    simp [delivered, accepted, inReady, hl, hr, hf, hv, hk]

/-- Before a cycle that delivers a byte there is a byte still to come. -/
theorem delivered_append_ne_nil {x : Inputs} (hv : x.inValid = true) (hk : x.sinkHold = false)
    (xs : List Inputs) : delivered (xs ++ [x]) ≠ [] := by
  simp [delivered, hv, hk]

/-- A cycle before the frame's last byte, idle or not, goes on with the frame and ends none. -/
theorem Awaits.step_of_more {h l : Byte} {body rest : List Byte} {s : State}
    (hw : Awaits h l body s ((accepted s).toList ++ rest)) (hh : h = 0x72 ∨ h = 0x1C)
    (hlen : body.length = l.toNat - 1) (hmore : rest ≠ []) (hr : s.now.rst = false)
    (hf : s.now.xportFail = false) :
    ∃ t, step s = .next t ∧ t.inputs = s.tick.inputs ∧ t.oDone = false ∧
      Awaits h l body t rest := by
  cases ha : accepted s with
  | none =>
    rw [ha] at hw
    exact ⟨_, step_of_performs (.idle hr hw.live hw.cnt_ne_zero hf ha), rfl, rfl, hw.quiet⟩
  | some c =>
    rw [ha] at hw
    exact hw.step_of_byte hh hlen hmore ha

/-- A run whose last cycle delivers the last of the bytes to come ends with the frame's report, and
with no report before. -/
theorem run_of_awaits {h l : Byte} {body : List Byte} {x : Inputs} {later : List Inputs}
    (hh : h = 0x72 ∨ h = 0x1C) (hlen : body.length = l.toNat - 1) (hv : x.inValid = true)
    (hk : x.sinkHold = false) (xs : List Inputs) (s : State)
    (hw : Awaits h l body s (delivered (xs ++ [x]))) (hin : s.inputs = xs ++ x :: later)
    (hund : undisturbed (xs ++ [x])) :
    (∃ t, run (xs.length + 1) s = .next t ∧ t.inputs = later ∧ Reports h l body t) ∧
    ∀ (k : Nat) (u : State), 0 < k → k ≤ xs.length → run k s = .next u → u.oDone = false := by
  induction xs generalizing s with
  | nil =>
    have hnow : s.now = x := now_of_inputs hin
    obtain ⟨hr, hf⟩ := hund x (by simp)
    have ha : accepted s = some x.inByte := by
      rw [accepted, inReady, hw.live, hnow, hv, hr, hf, hk]
      rfl
    have hlast : delivered ([] ++ [x]) = [x.inByte] := by simp [delivered, hv, hk]
    rw [hlast] at hw
    obtain ⟨t, ht, htin, hreport⟩ := hw.step_of_last hlen ha
    refine ⟨⟨t, run_succ_of_step ht, by rw [htin, tick_inputs, hin]; rfl, hreport⟩, ?_⟩
    intro k u hpos hle
    exact absurd hpos (Nat.not_lt.mpr hle)
  | cons y xs ih =>
    have hnow : s.now = y := now_of_inputs hin
    obtain ⟨hr, hf⟩ := hund y (by simp)
    rw [List.cons_append, delivered_cons hw.live hnow hr hf] at hw
    obtain ⟨t, ht, htin, hdone, hw'⟩ := hw.step_of_more hh hlen (delivered_append_ne_nil hv hk xs)
      (by rw [hnow, hr]) (by rw [hnow, hf])
    have hin' : t.inputs = xs ++ x :: later := by rw [htin, tick_inputs, hin]; rfl
    obtain ⟨hend, hnone⟩ := ih t hw' hin' fun z hz => hund z (List.mem_cons_of_mem y hz)
    rw [List.length_cons, run_succ_of_step ht]
    refine ⟨hend, fun k u hpos hle hrun => ?_⟩
    obtain ⟨k, rfl⟩ := Nat.exists_eq_succ_of_ne_zero hpos.ne'
    rw [run_succ_of_step ht] at hrun
    cases k with
    | zero => cases hrun; exact hdone
    | succ k => exact hnone (k + 1) u k.succ_pos (Nat.le_of_succ_le_succ hle) hrun

/-- Settles O50: before its header all of the frame is to come. -/
theorem frameConsumesExactlyItsLength : Obligations.FrameConsumesExactlyItsLength := by
  intro s xs later x h l body hs hin hund hdel hv hk hh hlen
  have hw : Awaits h l body s (delivered (xs ++ [x])) := hdel ▸ .frame hs
  obtain ⟨⟨t, ht, htin, hreport⟩, hnone⟩ := run_of_awaits hh hlen hv hk xs s hw hin hund
  exact ⟨t, ht, htin, hreport.state, hreport.done, hreport.len, hreport.primary, hreport.normal,
    hreport.short, hnone⟩

end Sys2Proof.Safety
end

section
/-! PROOF. The system operations of 42_system_ops.md: reset, the two fatal states and the two faults,
which no run from reset meets. -/

namespace Sys2Proof.Machine

/-! ## `in_ready` outside a live state and under `rst` (R53) -/

theorem inReady_of_rst {s : State} (h : s.now.rst = true) : inReady s = false := by
  simp [inReady, h]

theorem inReady_of_not_live {s : State} (h : s.state.live = false) : inReady s = false := by
  simp [inReady, h]

/-! ## The terminal states -/

/-- The two halts are the defaults alone (R152, R153). -/
theorem step_of_terminal {s : State} (hs : s.state = .desync ∨ s.state = .failed)
    (hr : s.now.rst = false) : step s = .next s.tick.pulseDefaults :=
  hs.elim (fun h => step_of_performs (.haltDesync hr h)) fun h => step_of_performs (.haltFailed hr h)

theorem oCause_of_desync {s : State} (h : s.state = .desync) : oCause s = 2 := by
  simp [oCause, cause, h, Cause.code]

theorem oCause_of_failed {s : State} (h : s.state = .failed) : oCause s = 1 := by
  simp [oCause, cause, h, Cause.code]

end Sys2Proof.Machine

namespace Sys2Proof.Safety

open Sys2Proof.Machine

/-- Every state that a run from reset reaches meets the frame invariants (R43). -/
theorem frameInv_of_run {n : Nat} {xs : List Inputs} {s : State}
    (h : run n { State.reset with inputs := xs } = .next s) : ∃ bytes, FrameInv bytes s := by
  have hstep : ∀ s, (∃ bytes, FrameInv bytes s) →
      ∃ t, step s = .next t ∧ ∃ bytes, FrameInv bytes t := by
    rintro s ⟨bytes, hinv⟩
    obtain ⟨t, ht, hinv'⟩ := everyStepKeepsTheFrameInvariants bytes s hinv
    exact ⟨t, ht, _, hinv'⟩
  obtain ⟨t, ht, hinv⟩ := run_induction hstep n _ ⟨[], (resetMeetsTheInvariants xs 0).1⟩
  cases h.symm.trans ht
  exact hinv

/-- Settles O22: `RESET` is the table's first row, and a halt keeps `STATE`. -/
theorem resetWinsInEveryState : Obligations.ResetWinsInEveryState := by
  refine ⟨exec_reset, fun s hr => ⟨inReady_of_rst hr, accepted_of_rst hr, step_of_rst hr⟩,
    fun s t u hr h hr' h' => ?_, fun s t hs h hne => ?_⟩
  · cases (step_of_rst hr).symm.trans h
    cases (step_of_rst hr').symm.trans h'
    rfl
  · by_contra hr
    cases (step_of_terminal hs (Bool.eq_false_of_not_eq_true hr)).symm.trans h
    exact hne rfl

/-- Settles O23: `XPORT_FAIL` enters `FAILED`, whose outputs follow from the state code. -/
theorem transportFailureEntersFailed : Obligations.TransportFailureEntersFailed := by
  refine ⟨exec_xportFail, fun s hl hc hr hf => ?_⟩
  have hcnt : s.state = .readBody → s.cnt ≠ 0 := fun hs h0 => hc ⟨hs, h0⟩
  exact ⟨accepted_of_fail hf, _, step_of_performs (.xportFail hr hl hcnt hf), rfl, rfl,
    oCause_of_failed rfl, inReady_of_not_live rfl⟩

/-- Settles O24: `DESYNC` is not live, and its halt writes the pulses alone. -/
theorem desyncHoldsUntilReset : Obligations.DesyncHoldsUntilReset := by
  refine ⟨exec_haltDesync, fun s hs hr => ?_⟩
  exact ⟨inReady_of_not_live (by rw [hs]; rfl), accepted_of_desync hs, oCause_of_desync hs,
    _, step_of_terminal (.inl hs) hr, rfl, hs, oCause_of_desync hs⟩

/-- Settles O25: `FAILED` is not live, and its halt writes the pulses alone. -/
theorem failedHoldsUntilReset : Obligations.FailedHoldsUntilReset := by
  refine ⟨exec_haltFailed, fun s hs hr => ?_⟩
  exact ⟨inReady_of_not_live (by rw [hs]; rfl), accepted_of_failed hs, oCause_of_failed hs,
    _, step_of_terminal (.inr hs) hr, rfl, hs, oCause_of_failed hs⟩

/-- Settles O26: `ILLEGAL_STATE` is what a reserved code selects, and R43 (a) holds along every run
from reset. -/
theorem reservedStateCodeFaults : Obligations.ReservedStateCodeFaults := by
  refine ⟨exec_illegalState, fun s hs hr => step_of_performs (.illegalState hr hs),
    fun n xs s h hs => ?_⟩
  obtain ⟨bytes, hinv⟩ := frameInv_of_run h
  exact Bool.eq_false_iff.mp hinv.notReserved hs

/-- Settles O27: `ILLEGAL_CNT0` is what a body with `CNT` 0 selects, and R43 (b) holds along every run
from reset. -/
theorem bodyWithZeroCountFaults : Obligations.BodyWithZeroCountFaults := by
  refine ⟨exec_illegalCnt0, fun s hs hc hr => step_of_performs (.illegalCnt0 hr hs hc), ?_⟩
  rintro n xs s h ⟨hs, hc⟩
  obtain ⟨bytes, hinv⟩ := frameInv_of_run h
  exact hinv.cnt_ne_zero hs hc

end Sys2Proof.Safety
end

section
/-! PROOF. The errors of 60_exceptions.md: how long a terminal state lasts, and the cause that a cycle
leaves. -/

namespace Sys2Proof.Machine

/-! ## The cause of the current condition (R170, R177) -/

/-- R177's order with the codes of R170. -/
theorem oCause_eq (s : State) : oCause s =
    if s.state = .failed then 1
    else if s.state = .desync then 2
    else if s.oDone ∧ s.oShort then 4
    else if s.oDone ∧ s.oOk = false then 3
    else 0 := by
  rw [oCause, cause]
  split_ifs <;> rfl

/-- Between frame ends only the fatal causes are left. -/
theorem oCause_of_not_done {s : State} (h : s.oDone = false) : oCause s =
    if s.state = .failed then 1 else if s.state = .desync then 2 else 0 := by
  simp [oCause_eq, h]

theorem oCause_of_terminal {s t : State} (hs : s.state = .desync ∨ s.state = .failed)
    (h : t.state = s.state) : oCause t = oCause s := by
  obtain hs | hs := hs
  · rw [oCause_of_desync hs, oCause_of_desync (h.trans hs)]
  · rw [oCause_of_failed hs, oCause_of_failed (h.trans hs)]

theorem live_of_terminal {p : ProtocolState} (h : p = .desync ∨ p = .failed) : p.live = false := by
  obtain rfl | rfl := h <;> rfl

/-- An accepted byte never enters `FAILED`, and none but a header enters `DESYNC` (R140). -/
theorem not_fatal_of_accepted {s t : State} {b : Byte} (h : step s = .next t)
    (ha : accepted s = some b) :
    t.state ≠ .failed ∧ (s.state ≠ .awaitHdr → t.state ≠ .desync) := by
  cases effect_of_step h with
  | reset rst => cases (accepted_of_rst rst).symm.trans ha
  | quiet _ none => cases none.symm.trans ha
  | fail _ none => cases none.symm.trans ha
  | badHeader _ state => simp [FatalError.terminal, state]
  | payload _ state => simp [state]
  | _ => simp

end Sys2Proof.Machine

namespace Sys2Proof.Safety

open Sys2Proof.Machine

/-! ## The terminal states (R155, R181) -/

/-- From a terminal state a run without `rst` writes the two pulses alone. -/
theorem run_of_terminal (n : Nat) (s : State) (hs : s.state = .desync ∨ s.state = .failed)
    (hr : ∀ k, k < n → (s.inputAt k).rst = false) :
    ∃ t, run n s = .next t ∧
      t = { s with oDone := t.oDone, oBvalid := t.oBvalid, inputs := t.inputs, cycle := t.cycle } ∧
      (0 < n → t.oDone = false ∧ t.oBvalid = false) ∧ t.now = s.inputAt n := by
  induction n generalizing s with
  | zero => exact ⟨s, run_zero s, rfl, by simp, (inputAt_zero s).symm⟩
  | succ n ih =>
    have hstep : step s = .next s.tick.pulseDefaults :=
      step_of_terminal hs (by simpa using hr 0 n.succ_pos)
    have hinput (k : Nat) : s.tick.pulseDefaults.inputAt k = s.inputAt (k + 1) := inputAt_tick s k
    obtain ⟨t, hrun, hkept, hpulses, hnow⟩ := ih s.tick.pulseDefaults hs
      fun k hk => (hinput k).symm ▸ hr (k + 1) (Nat.succ_lt_succ hk)
    refine ⟨t, (run_succ_of_step hstep).trans hrun, hkept, fun _ => ?_, hnow.trans (hinput n)⟩
    cases n with
    | zero => cases hrun; exact ⟨rfl, rfl⟩
    | succ n => exact hpulses n.succ_pos

/-- Settles O35, by induction on the number of cycles: each is a halt, and the outputs named follow
from the state code that the halts keep. -/
theorem terminalStatesLastUntilReset : Obligations.TerminalStatesLastUntilReset := by
  intro s n hs hr
  obtain ⟨t, hrun, hkept, hpulses, hnow⟩ := run_of_terminal n s hs hr
  have hstate : t.state = s.state := by rw [hkept]
  have hlive : t.state.live = false := hstate ▸ live_of_terminal hs
  exact ⟨t, hrun, hkept, hpulses, inReady_of_not_live hlive, accepted_of_not_live hlive,
    congrArg ProtocolState.code hstate, oCause_of_terminal hs hstate, hnow,
    fun hrst => ⟨_, step_of_rst (hnow ▸ hrst), hasResetValues_resetRegisters _⟩⟩

/-! ## The cause after a cycle (R178, R179) -/

section CauseAfterStep

variable {s t : State} {b : Byte}

/-- The cause after a cycle, from the state it enters and the frame it ends: a short frame before a
mismatch. -/
theorem oCause_of_step (h : step s = .next t) : oCause t =
    if t.state = .failed then 1
    else if t.state = .desync then 2
    else if frameEnds s = true ∧ s.state = .readLen then 4
    else if frameEnds s = true ∧ accepted s ≠ some s.acc then 3
    else 0 := by
  cases he : frameEnds s with
  | false => simp [oCause_of_not_done ((oDone_eq_frameEnds h).trans he)]
  | true =>
    obtain ⟨l, state, -, -, rfl⟩ | ⟨c, state, byte, -, rfl⟩ := frameEnd_cases h he
    · simp [oCause_report_short, state]
    · by_cases hc : c = s.acc
      · simp [oCause_report_ok, state, byte, hc]
      · simp [oCause_report_mismatch, state, byte, hc, beq_false_of_ne (Ne.symm hc)]

/-- The one cause that an accepted byte can raise, by the protocol state that accepts it. -/
theorem oCause_of_accepted (h : step s = .next t) (ha : accepted s = some b) :
    (s.state = .awaitHdr → oCause t = 0 ∨ oCause t = 2) ∧
    (s.state = .readLen → oCause t = 0 ∨ oCause t = 4) ∧
    (s.state = .readBody → s.cnt = 1 → oCause t = 0 ∨ oCause t = 3) ∧
    (s.state = .readBody → s.cnt ≠ 1 → oCause t = 0) := by
  obtain ⟨hfailed, hdesync⟩ := not_fatal_of_accepted h ha
  rw [oCause_of_step h, if_neg hfailed]
  refine ⟨fun hs => ?_, fun hs => ?_, fun hs _ => ?_, fun hs hc => ?_⟩
  · by_cases hd : t.state = .desync <;> simp [hd, frameEnds_awaitHdr hs]
  · rw [if_neg (hdesync (by simp [hs]))]
    cases he : frameEnds s <;> simp [hs]
  · rw [if_neg (hdesync (by simp [hs])), if_neg (by simp [hs])]
    exact (ite_eq_or_eq _ _ _).symm
  · rw [if_neg (hdesync (by simp [hs])), frameEnds_readBody hs ha, beq_false_of_ne hc]
    simp

end CauseAfterStep

/-- Settles O45: a fatal state comes before a frame end, which is a short one or a comparison; each
accepted byte meets one of the three. -/
theorem causeFollowsTheEventOfTheCycle : Obligations.CauseFollowsTheEventOfTheCycle := by
  refine ⟨fun s t => oCause_of_step, fun s => ?_, fun s t b => oCause_of_accepted⟩
  rw [oCause_eq]
  split_ifs <;> decide

end Sys2Proof.Safety
end

section
/-! PROOF. A byte offered while `rst` is 1 (70_reset_and_hazards.md R202): the transport's duty of
R54 carries the offer to the next ready cycle. -/

namespace Sys2Proof.Machine

theorem inReady_of_xportFail {s : State} (h : s.now.xportFail = true) : inReady s = false := by
  simp [inReady, h]

end Sys2Proof.Machine

namespace Sys2Proof.Safety

open Sys2Proof.Machine

/-- Of R54's ways on from an offer not accepted, a ready cycle leaves only the same offer: under
`xport_fail` or `rst` RXFC is not ready. -/
theorem accepted_of_keepsOffer {s t : State} (hoffer : s.now.inValid = true)
    (hnone : accepted s = none) (hkeep : KeepsOffer s t) (hready : inReady t = true) :
    accepted t = some s.now.inByte := by
  obtain ⟨hvalid, hbyte⟩ | hfail | hrst := hkeep hoffer hnone
  · exact accepted_eq_some_iff.mpr ⟨hvalid, hready, hbyte⟩
  · cases (inReady_of_xportFail hfail).symm.trans hready
  · cases (inReady_of_rst hrst).symm.trans hready

/-- Settles O52: under `rst` the offer is not accepted, so the transport's duty applies to it. -/
theorem byteOfferedDuringResetIsNotLost : Obligations.ByteOfferedDuringResetIsNotLost :=
  ⟨fun _ hr => ⟨inReady_of_rst hr, accepted_of_rst hr⟩,
    fun _ _ hr hoffer _ hkeep _ hready =>
      accepted_of_keepsOffer hoffer (accepted_of_rst hr) hkeep hready⟩

end Sys2Proof.Safety
end
